-- ==== Sys2Proof/Word.lean ====
section
/-! DEFINITION. The plain value types of the MV432: bytes, station times, the numbers of ports, switches and
classes, and the two fixed-size records that hold one value per port or lane and one per switch or class. -/

namespace Sys2Proof

/-- One byte of a notice on the station bus. -/
abbrev Byte := BitVec 8

/-- A station time: a 32-bit count of milliseconds that wraps (00 section 4.3, R147). -/
abbrev Time := BitVec 32

/-- The number of a port P0 to P3, and of its lane (00 section 4.1). -/
abbrev PortId := Fin 4

/-- The number of a switch S0 to S7 (00 section 4.1). -/
abbrev SwitchId := Fin 8

/-- The number of a traffic class C0 to C7 (00 section 4.1). -/
abbrev ClassId := Fin 8

/-- One value for each of the four ports or lanes. -/
structure Four (α : Type) where
  p0 : α
  p1 : α
  p2 : α
  p3 : α
  deriving DecidableEq, Repr

/-- One value for each of the eight switches or classes. -/
structure Eight (α : Type) where
  e0 : α
  e1 : α
  e2 : α
  e3 : α
  e4 : α
  e5 : α
  e6 : α
  e7 : α
  deriving DecidableEq, Repr

/-- The four port numbers in order. -/
def allPorts : List PortId := [0, 1, 2, 3]

/-- The eight switch numbers in order. -/
def allSwitches : List SwitchId := [0, 1, 2, 3, 4, 5, 6, 7]

/-- The eight class numbers in order. -/
def allClasses : List ClassId := [0, 1, 2, 3, 4, 5, 6, 7]

def Four.get {α : Type} (f : Four α) (i : PortId) : α :=
  match i with
  | 0 => f.p0
  | 1 => f.p1
  | 2 => f.p2
  | 3 => f.p3

def Four.set {α : Type} (f : Four α) (i : PortId) (a : α) : Four α :=
  match i with
  | 0 => { f with p0 := a }
  | 1 => { f with p1 := a }
  | 2 => { f with p2 := a }
  | 3 => { f with p3 := a }

/-- The record whose value at each port is computed from the port's number. -/
def Four.build {α : Type} (g : PortId → α) : Four α :=
  { p0 := g 0, p1 := g 1, p2 := g 2, p3 := g 3 }

/-- The same value at every port. -/
def Four.all {α : Type} (a : α) : Four α :=
  { p0 := a, p1 := a, p2 := a, p3 := a }

def Four.map {α β : Type} (g : α → β) (f : Four α) : Four β :=
  { p0 := g f.p0, p1 := g f.p1, p2 := g f.p2, p3 := g f.p3 }

def Eight.get {α : Type} (f : Eight α) (i : Fin 8) : α :=
  match i with
  | 0 => f.e0
  | 1 => f.e1
  | 2 => f.e2
  | 3 => f.e3
  | 4 => f.e4
  | 5 => f.e5
  | 6 => f.e6
  | 7 => f.e7

def Eight.set {α : Type} (f : Eight α) (i : Fin 8) (a : α) : Eight α :=
  match i with
  | 0 => { f with e0 := a }
  | 1 => { f with e1 := a }
  | 2 => { f with e2 := a }
  | 3 => { f with e3 := a }
  | 4 => { f with e4 := a }
  | 5 => { f with e5 := a }
  | 6 => { f with e6 := a }
  | 7 => { f with e7 := a }

/-- The record whose value at each switch or class is computed from its number. -/
def Eight.build {α : Type} (g : Fin 8 → α) : Eight α :=
  { e0 := g 0, e1 := g 1, e2 := g 2, e3 := g 3, e4 := g 4, e5 := g 5, e6 := g 6, e7 := g 7 }

/-- The same value at every switch or class. -/
def Eight.all {α : Type} (a : α) : Eight α :=
  { e0 := a, e1 := a, e2 := a, e3 := a, e4 := a, e5 := a, e6 := a, e7 := a }

def Eight.map {α β : Type} (g : α → β) (f : Eight α) : Eight β :=
  { e0 := g f.e0, e1 := g f.e1, e2 := g f.e2, e3 := g f.e3,
    e4 := g f.e4, e5 := g f.e5, e6 := g f.e6, e7 := g f.e7 }

end Sys2Proof
end

