-- ==== Sys2Proof/Syntax.lean ====
section
/-! DEFINITION. The commands of the MV432: one constructor of `Instr` for each row of spec/opcode_table.json, with
the operands an event of that row brings from outside (notes/assumptions/7.md). -/

namespace Sys2Proof

/-- The four header bytes of a notice (R62). -/
structure Header where
  kind : Byte
  sender : Byte
  target : Byte
  len : Byte
  deriving DecidableEq, Repr

/-- A notice as it stands on the wires: its header, and all bytes sent between the hold slot and the stop mark,
which are the body, the check byte and whatever else a sender adds. A receiver finds the check byte by the body
length of the header (R43), so a tail may also be too short: the stop mark then comes inside the notice (R47). -/
structure Notice where
  header : Header
  tail : List Byte
  deriving DecidableEq, Repr

/-- Which part of a notice a notice command stands for (R38; notes/assumptions/7.md). `sender` and `header` begin where
the notice stands: at its start mark, or after it. -/
inductive NoticeSpan where
  /-- All that is still to come of the notice, with its stop mark, or up to its hold slot if the station holds there. -/
  | whole
  /-- The start mark. -/
  | startMark
  /-- Up to the end of the sender byte. -/
  | sender
  /-- Up to the opening of the hold slot. -/
  | header
  /-- From the hold slot to the end of the notice, the rise of BCK that samples the last check bit (R48). -/
  | body
  /-- The take slot, up to the fall of BCK that opens the stop sequence (R50, R51). -/
  | takeSlot
  /-- What the sender adds after the take slot, and the stop mark (R38, R43). -/
  | stopMark
  /-- Clocks within a part, up to a rise of BCK with BDT high or low; no other span ends there (R37, R39). -/
  | clocks (dataHigh : Bool)
  deriving DecidableEq, Repr

/-- A mark on the station bus (R37). -/
inductive Mark where
  | start
  | stop
  deriving DecidableEq, Repr

/-- The levels of the input pins that a cold reset reads: straps ID4 to ID0, SIG0 to SIG3, MRDY and RSTN; and of the
station bus, whether a notice is on its wires or BCK is low, and whether BDT is low (R18, R39, R60, R145, R146, R158).
-/
structure Pins where
  straps : BitVec 5
  sig : Four Bool
  mrdy : Bool
  rstn : Bool
  busBusy : Bool
  dataLow : Bool
  deriving DecidableEq, Repr

/-- The commands: one constructor for each row of spec/opcode_table.json. -/
inductive Instr where
  /-- SERR_PULSE (R5). -/
  | serrPulse (lane : PortId)
  /-- HELLO_PULSE (R11). -/
  | helloPulse (lane : PortId)
  /-- SIGNAL_LOSS (R9). -/
  | signalLoss (lane : PortId)
  /-- SIGNAL_PRESENT (R10). -/
  | signalPresent (lane : PortId)
  /-- EPOCH_END (R4). -/
  | epochEnd
  /-- HELLO_SILENCE (R14). -/
  | helloSilence (lane : PortId)
  /-- REVERT_TIMER_EXPIRY (R29). -/
  | revertTimerExpiry (port : PortId)
  /-- TRANSMISSION_ATTEMPT (R39); `rival` is the notice of a station that drives its start mark in the same instant. -/
  | transmissionAttempt (rival : Option Notice)
  /-- TRANSMISSION_COMPLETE (R56); `taken` says that BDT was low at the take slot. -/
  | transmissionComplete (taken : Bool)
  /-- RESTART_NOTICE (R64). -/
  | restartNotice (n : Notice) (span : NoticeSpan)
  /-- CONFIG_NOTICE (R49). -/
  | configNotice (n : Notice) (span : NoticeSpan)
  /-- QUERY_NOTICE (R160). -/
  | queryNotice (n : Notice) (span : NoticeSpan)
  /-- HEALTH_NOTICE (R51). -/
  | healthNotice (n : Notice) (span : NoticeSpan)
  /-- DIGEST_NOTICE (R58). -/
  | digestNotice (n : Notice) (span : NoticeSpan)
  /-- DISCARDED_NOTICE (R48). -/
  | discardedNotice (n : Notice) (span : NoticeSpan)
  /-- TRUNCATED_NOTICE (R47): BCK has stayed high for 100 µs. -/
  | truncatedNotice
  /-- HOLD_LIMIT_EXPIRY (R44). -/
  | holdLimitExpiry
  /-- ABSORPTION (R86). -/
  | absorption
  /-- BEACON_EXPIRY (R77). -/
  | beaconExpiry
  /-- FRESHNESS_EXPIRY (R87) of the entry of station `id`. -/
  | freshnessExpiry (id : Nat)
  /-- EXPIRY_TIMER_EXPIRY (R88) of the entry of station `id`. -/
  | expiryTimerExpiry (id : Nat)
  /-- RECOMPUTE_COMPLETION (R98). -/
  | recomputeCompletion
  /-- CONDEMN_HOLD_EXPIRY (R103). -/
  | condemnHoldExpiry (sw : SwitchId)
  /-- BACKOFF_EXPIRY (R122). -/
  | backoffExpiry (cls : ClassId) (port : PortId)
  /-- ISSUE (R136). -/
  | issue
  /-- DONE (R137). -/
  | answerDone
  /-- REFUSED (R137). -/
  | answerRefused
  /-- CANCELLED (R139). -/
  | answerCancelled
  /-- ANSWER_LIMIT_EXPIRY (R141). -/
  | answerLimitExpiry
  /-- CANCEL_LIMIT_EXPIRY (R141). -/
  | cancelLimitExpiry
  /-- MRDY_FALL (R142). -/
  | mrdyFall
  /-- MRDY_RISE (R143). -/
  | mrdyRise
  /-- CONFIG_WAIT_EXPIRY (R152). -/
  | configWaitExpiry
  /-- JOIN_TIME_EXPIRY (R153). -/
  | joinTimeExpiry
  /-- RSTN_FALL (R157). -/
  | rstnFall
  /-- RSTN_RISE (R157). -/
  | rstnRise
  /-- WARM_RESET_END (R157). -/
  | warmResetEnd
  /-- SUPPLY_LOW (R159). -/
  | supplyLow
  /-- SUPPLY_GOOD (R159); `pins` are the levels the cold reset reads. -/
  | supplyGood (pins : Pins)
  /-- MARK_INSIDE_NOTICE (R47). -/
  | markInsideNotice (mark : Mark)
  deriving DecidableEq, Repr

end Sys2Proof
end

