-- ==== Sys2Proof/Config.lean ====
section
/-! DEFINITION. What the model fixes because the spec leaves it to the board: the pin levels that `State.reset` reads.
The spec leaves no result of a command undefined, so there is no free value here. -/

namespace Sys2Proof

/-- The levels of the pins at the cold reset that `State.reset` stands for: strapped to id 1, no signal on any lane,
the multiplexer not ready, RSTN inactive, the station bus quiet. DESIGN CHOICE (notes/assumptions/1.md), unsafe: no
statement may rest on it without saying so. Any other levels are reached by SUPPLY_GOOD with those levels. -/
def Config.resetPins : Pins :=
  { straps := 1#5, sig := Four.all false, mrdy := false, rstn := true, busBusy := false,
    dataLow := false }

end Sys2Proof
end

