-- ==== Sys2Proof/Machine/State.lean ====
section
/-! DEFINITION. The state of the MV432 as plain data, block by block (00 section 3), its faults and refusals, and the
state right after a cold reset. -/

namespace Sys2Proof.Machine

/-- A moment of station time, to the microsecond. -/
structure Instant where
  time : Time
  /-- Microseconds within the millisecond. -/
  micros : Nat
  deriving DecidableEq, Repr

/-- A one-shot timer (00 section 4.3). `running due` expires at the instant `due`; `expired` is a timer that
has run out and that a rule still reads (R20, R83, R94). -/
inductive Timer where
  | stopped
  | running (due : Instant)
  | expired
  deriving DecidableEq, Repr

/-- Usability of a port (R20). -/
inductive PortState where
  | absent
  | down
  | probation
  | up
  | suspect
  deriving DecidableEq, Repr

/-- Cause of a port's latest entry to DOWN (R20). -/
inductive Cause where
  | start
  | signal
  | silent
  | errors
  deriving DecidableEq, Repr

/-- A station's report on one switch (R32). -/
inductive Opinion where
  | none
  | clear
  | impaired
  | lost
  deriving DecidableEq, Repr

/-- A station's judgement on one switch (R94). -/
inductive Verdict where
  | clear
  | doubted
  | condemned
  deriving DecidableEq, Repr

/-- Where a class stands (R111). -/
inductive ClassStatus where
  | unused
  | unplaced
  | placed
  | moving
  | stranded
  deriving DecidableEq, Repr

/-- The move a class wants (R116). -/
inductive MoveKind where
  | place
  | evacuate
  | shed
  | revert
  deriving DecidableEq, Repr

/-- How the multiplexer is to make a move (R116). -/
inductive MoveMode where
  | forced
  | drained
  deriving DecidableEq, Repr

/-- State of the steering port (R134). -/
inductive SteerState where
  | ready
  | await
  | cancelling
  | stalled
  | offline
  deriving DecidableEq, Repr

/-- The station states of section 9.2. `resetting` is the model's name for a station in a warm reset, which has left
UNCONFIGURED, JOINING or ACTIVE and has not entered a state again (R157). DEDUCED (notes/assumptions/5.md). -/
inductive StationState where
  | unconfigured
  | joining
  | active
  | hold
  | resetting
  deriving DecidableEq, Repr

/-- Sender state of a peer (R65, R83). -/
inductive SenderState where
  | joining
  | active
  deriving DecidableEq, Repr

/-- Status of a peer entry (R83). -/
inductive PeerStatus where
  | fresh
  | stale
  deriving DecidableEq, Repr

/-- The port map entry of one port (R69). -/
structure PortMap where
  absent : Bool
  switch : SwitchId
  supervised : Bool
  deriving DecidableEq, Repr

/-- One accepted configuration, after the clamps of R150, each field in the unit of R68. -/
structure Settings where
  portMap : Four PortMap
  qCond : Nat
  qClear : Nat
  tHi : Nat
  tLo : Nat
  cvw : Nat
  decay : Nat
  probationEpochs : Nat
  helloLimit : Nat
  beacon : Nat
  fresh : Nat
  expire : Nat
  condemnHold : Nat
  revertHold : Nat
  stagger : Nat
  drainLimit : Nat
  refuseBackoff : Nat
  joinTime : Nat
  holdEn : Bool
  lists : Eight (List PortId)
  deriving DecidableEq, Repr

/-- One lane of the line monitor (Chapter 1). `level` is `none` where R18 says the level is not kept. -/
structure Lane where
  present : Bool
  supervised : Bool
  level : Option Bool
  errors : Nat
  peak : Nat
  helloTimer : Timer
  helloSeen : Bool
  deriving DecidableEq, Repr

/-- One port record (R20). `upSince` and `revertTimer` are present while the port is UP or SUSPECT. -/
structure PortRecord where
  state : PortState
  cause : Cause
  score : Nat
  cleanEpochs : Nat
  upSince : Option Time
  revertTimer : Option Timer
  revertReady : Bool
  deriving DecidableEq, Repr

/-- An entry of the transmit queue (R53). -/
inductive TxEntry where
  | health
  | digest (target : Byte) (body : List Byte)
  deriving DecidableEq, Repr

/-- How far the notice that the station is RECEIVING has come (R43, R48, R50). -/
inductive Stage where
  /-- The start mark has been seen; the header is still to come. -/
  | opened
  /-- As `opened`, in a notice that the station lost to within the kind byte: a clash is to be detected at its sender
  byte (R59). -/
  | contested
  /-- The header is in and the hold slot has opened; the station may be holding there. -/
  | headed (h : Header)
  /-- The end of the notice is past and the take slot is not; `taken` is the outcome. -/
  | taking (h : Header) (taken : Bool)
  /-- The take slot is past and the stop mark is still to come. -/
  | closing (h : Header)
  deriving DecidableEq, Repr

/-- Activity of the station bus controller (Chapter 3). -/
inductive Activity where
  | idle
  /-- Sending a notice for a queue entry; the notice was built at the start mark (R54). -/
  | sending (entry : TxEntry) (notice : Notice)
  | receiving (stage : Stage)
  deriving DecidableEq, Repr

/-- The two lines of the station bus as the other stations leave them, by the last command of the bus (R37, R39). -/
structure Wires where
  /-- A notice is on the wires that goes on without the station: one that it does not follow, having missed its start
  mark, or one that other stations send, or hold the clock of, with it. -/
  foreign : Bool
  /-- BCK is low, or its clock runs. -/
  clockRuns : Bool
  /-- BDT is low. -/
  dataLow : Bool
  deriving DecidableEq, Repr

/-- Both lines are high, and no notice is on them. -/
def quietWires : Wires := { foreign := false, clockRuns := false, dataLow := false }

/-- The station bus controller (Chapter 3). -/
structure Bus where
  activity : Activity
  /-- The bus-free timer: microseconds for which BCK and BDT have been high together, counted up to 50 (R39). -/
  quiet : Nat
  /-- Microseconds since the latest of the last stop mark seen, the end of the last reset and the detection of the last
  truncated notice, counted up to 50 (R39). -/
  sinceEvent : Nat
  /-- The lines as the other stations leave them. The model's own field (notes/assumptions/30.md). -/
  wires : Wires
  /-- The hold state: `some t` after `t` microseconds of a hold (R44). -/
  hold : Option Nat
  slot : Option Notice
  queue : List TxEntry
  dueMark : Bool
  lastHealthEnd : Option Instant
  lastTaken : Bool
  overrun : Bool
  /-- Whether BDT was driven low in the take slot of the last notice followed (R50).
  The model's own field (notes/assumptions/21.md). -/
  takeDriven : Bool
  deriving DecidableEq, Repr

/-- A peer entry (R83). -/
structure PeerEntry where
  id : Nat
  sender : SenderState
  opinions : Eight Opinion
  lastHeard : Time
  status : PeerStatus
  freshTimer : Timer
  expiryTimer : Timer
  deriving DecidableEq, Repr

/-- A timer expiry held back while a recompute is in progress (R90). -/
inductive HeldExpiry where
  | freshness (id : Nat)
  | removal (id : Nat)
  deriving DecidableEq, Repr

/-- The peer view table (Chapter 5). -/
structure PeerView where
  entries : List PeerEntry
  held : List HeldExpiry
  deriving DecidableEq, Repr

/-- A switch record (R94). -/
structure SwitchRecord where
  verdict : Verdict
  opinionRead : Opinion
  lastA : Nat
  lastK : Nat
  condition : Bool
  holdTimer : Timer
  deriving DecidableEq, Repr

/-- What a recompute reads at its start for the unit as a whole (R96), and the microseconds since that start. -/
structure Recompute where
  qCond : Nat
  qClear : Nat
  mapped : Eight Nat
  elapsed : Nat
  deriving DecidableEq, Repr

/-- Activity of the verdict unit (R94). -/
inductive VerdictActivity where
  | idle
  | recomputing (r : Recompute)
  deriving DecidableEq, Repr

/-- The verdict unit (Chapter 6). -/
structure VerdictUnit where
  switches : Eight SwitchRecord
  activity : VerdictActivity
  again : Bool
  deriving DecidableEq, Repr

/-- A class record (R109). The barred set holds, for each barred port, its backoff timer (R121). -/
structure ClassRecord where
  prefs : List PortId
  status : ClassStatus
  current : Option PortId
  target : Option PortId
  barred : Four (Option Timer)
  deriving DecidableEq, Repr

/-- A move queue entry (R128). Its rank is a function of its kind. -/
structure QueueEntry where
  cls : ClassId
  kind : MoveKind
  target : PortId
  queuedAt : Time
  earliestStart : Time
  deriving DecidableEq, Repr

/-- The outstanding move record (R134, R136). -/
structure Move where
  cls : ClassId
  target : PortId
  mode : MoveMode
  deriving DecidableEq, Repr

/-- What the controller drives on its output pins for one event: the lines and an MREQ strobe for a request, or an MCAN
strobe for a cancel (R133, R136, R138). -/
inductive Drive where
  | request (m : Move)
  | cancel
  deriving DecidableEq, Repr

/-- The output pins MCLS, MTGT, MMODE, MREQ and MCAN (R133). -/
structure SteerPins where
  mcls : ClassId
  mtgt : PortId
  mmode : Bool
  /-- Microseconds for which the lines are still set before MREQ rises. -/
  setUp : Nat
  /-- Microseconds for which MREQ is still driven high. -/
  mreq : Nat
  /-- Microseconds for which MCAN is still driven high. -/
  mcan : Nat
  /-- Drives that wait for the end of the one being made, first in first out. The model's own field
  (notes/assumptions/37.md). -/
  waiting : List Drive
  deriving DecidableEq, Repr

/-- The move queue and steering port controller (Chapter 8), with its output pins (R133). -/
structure Mux where
  queue : List QueueEntry
  port : SteerState
  outstanding : Option Move
  answerLimit : Timer
  cancelLimit : Timer
  mrdy : Bool
  pins : SteerPins
  /-- Whether the last rise of MRDY in OFFLINE released ALRTN and an evaluation drove it low again (R164).
  The model's own field (notes/assumptions/31.md). -/
  alertReleased : Bool
  deriving DecidableEq, Repr

/-- The station controller (Chapter 9). -/
structure Station where
  id : Nat
  state : StationState
  silenced : Bool
  config : Option Settings
  defaulted : Bool
  lateConfig : Bool
  time : Time
  /-- Microseconds within the current millisecond of station time (R147). -/
  micros : Nat
  configWait : Timer
  joinTime : Timer
  rstnHigh : Bool
  /-- Microseconds for which RSTN has been high in the warm reset in progress, counted up to 100 (R157). -/
  resetQuiet : Nat
  deriving DecidableEq, Repr

/-- The whole state of the MV432. -/
structure State where
  lanes : Four Lane
  epoch : Timer
  ports : Four PortRecord
  opinions : Eight Opinion
  bus : Bus
  beacon : Timer
  view : PeerView
  verdicts : VerdictUnit
  classes : Eight ClassRecord
  mux : Mux
  ctl : Station
  /-- The commands that wait, first in first out. -/
  pending : List Instr
  deriving DecidableEq, Repr

/-- The faults of the machine: there is none. The spec describes no trap and no behaviour that stops the part, so no
meaning raises one, which is safe. -/
inductive Fault where
  deriving DecidableEq, Repr

/-- The refusals of the machine. -/
inductive Refusal where
  /-- Raised by `exec` alone, for a command of the table that has no meaning yet; safe, since the machine stops. -/
  | notModelled (mnemonic : String)
  deriving DecidableEq, Repr

/-- What a meaning answers. -/
abbrev Result := Host.Outcome State Fault Refusal

/-- The state right after a cold reset with the pins at `Config.resetPins`: every value as R18, R36, R60, R82, R93,
R107, R125, R145 and R158 give it. `State.coldReset_resetPins` (Sys2Proof/Laws/State.lean) says that this is what
SUPPLY_GOOD leaves. -/
def State.reset : State :=
  { lanes := Four.all
      { present := true, supervised := true, level := some false, errors := 0, peak := 0,
        helloTimer := .stopped, helloSeen := false }
    epoch := .running { time := 100#32, micros := 0 }
    ports := Four.all
      { state := .down, cause := .start, score := 1023, cleanEpochs := 0, upSince := none,
        revertTimer := none, revertReady := false }
    opinions := Eight.all .none
    bus :=
      { activity := .idle, quiet := 0, sinceEvent := 0, wires := quietWires, hold := none,
        slot := none, queue := [], dueMark := false, lastHealthEnd := none, lastTaken := false,
        overrun := false, takeDriven := false }
    beacon := .stopped
    view := { entries := [], held := [] }
    verdicts :=
      { switches := Eight.all
          { verdict := .clear, opinionRead := .none, lastA := 0, lastK := 0, condition := false,
            holdTimer := .stopped }
        activity := .idle, again := false }
    classes := Eight.all
      { prefs := [], status := .unused, current := none, target := none, barred := Four.all none }
    mux :=
      { queue := [], port := .offline, outstanding := none, answerLimit := .stopped,
        cancelLimit := .stopped, mrdy := false
        pins :=
          { mcls := 0, mtgt := 0, mmode := false, setUp := 0, mreq := 0, mcan := 0, waiting := [] }
        alertReleased := false }
    ctl :=
      { id := 1, state := .unconfigured, silenced := false, config := none, defaulted := false,
        lateConfig := false, time := 0#32, micros := 0, configWait := .running { time := 2000#32, micros := 0 },
        joinTime := .stopped, rstnHigh := true, resetQuiet := 0 }
    pending := [] }

end Sys2Proof.Machine
end

