-- ==== Sys2Proof/Machine/Time.lean ====
section
/-! DEFINITION. Station times and timers: the fixed durations of the part, the comparison of station times modulo 2^32,
and what starting, stopping and running out do to a timer (00 section 4.3, R147). -/

namespace Sys2Proof.Machine

/-- Microseconds in one millisecond of station time: R147's 10 000 cycles of the 10 MHz clock. -/
def microsPerMs : Nat := 1000

/-- The length of an epoch in milliseconds (R3). -/
def epochMs : Nat := 100

/-- The bus-free time in microseconds (R39). -/
def busFreeMicros : Nat := 50

/-- The limit of a hold in microseconds (R44). -/
def holdLimitMicros : Nat := 2000

/-- The longest recompute in microseconds (R96). -/
def recomputeLimitMicros : Nat := 500

/-- The microseconds that RSTN must be high for a warm reset to end (R157). -/
def resetQuietMicros : Nat := 100

/-- The width of the strobes MREQ and MCAN in microseconds (R133). -/
def strobeMicros : Nat := 1

/-- The microseconds for which the class, target and mode lines are set before MREQ rises (R133). -/
def setUpMicros : Nat := 1

/-- The least time in milliseconds between the end of a HEALTH and the next HEALTH (R54). -/
def healthGapMs : Nat := 20

/-- The answer limit of a FORCED move, in milliseconds (R136). -/
def forcedLimitMs : Nat := 10

/-- The cancel limit in milliseconds (R138). -/
def cancelLimitMs : Nat := 10

/-- The CONFIG_WAIT time in milliseconds (R152). -/
def configWaitMs : Nat := 2000

/-- The station time `ms` milliseconds after `t`, wrapping (R147). -/
def later (t : Time) (ms : Nat) : Time := t + BitVec.ofNat 32 ms

/-- Whether station time `now` has reached `due`: their difference modulo 2^32 is less than 2^31 (R135, R147). -/
def reached (now due : Time) : Bool := decide ((now - due).toNat < 2 ^ 31)

/-- Whether station time `a` is strictly earlier than `b`, compared modulo 2^32 (R129). -/
def earlier (a b : Time) : Bool := decide (a ≠ b) && reached b a

/-- Whether the instant `due` has come at the instant `now`: the whole milliseconds are compared as station times, and
the microseconds within one (00 section 4.3, R147). -/
def ranOut (now due : Instant) : Bool :=
  reached now.time due.time && (decide (now.time ≠ due.time) || decide (due.micros ≤ now.micros))

/-- A timer started, or restarted, at `now` with a duration in milliseconds (00 section 4.3); it runs out at the
microsecond at which the duration has passed. -/
def startTimer (now : Instant) (ms : Nat) : Timer := .running { now with time := later now.time ms }

/-- A timer that runs in whole milliseconds of station time, started or restarted at `now`: the hello timer counts them
(R12), and a revert timer and the timers of a peer run from a station time that the record holds (R28, R83;
notes/assumptions/32.md). -/
def startCounted (now : Time) (ms : Nat) : Timer := .running { time := later now ms, micros := 0 }

/-- Whether a timer is running. -/
def Timer.isRunning (t : Timer) : Bool :=
  match t with
  | .running _ => true
  | _ => false

/-- Whether a timer is running and its duration has run out at `now`. -/
def Timer.isDue (t : Timer) (now : Instant) : Bool :=
  match t with
  | .running due => ranOut now due
  | _ => false

/-- What the entry to HOLD makes of a timer: it stops (R159). -/
def Timer.halt (t : Timer) : Timer :=
  match t with
  | .running _ => .stopped
  | _ => t

end Sys2Proof.Machine
end

