-- ==== Sys2Proof/Machine/Operands.lean ====
section
/-! DEFINITION. The bytes of notices: the check code, the form of a notice, how the bodies of CONFIG and HEALTH are
read, how HEALTH and DIGEST are built, and the codes of the fields (Chapters 3, 4 and 9). -/

namespace Sys2Proof.Machine

/-! ## The check code (R46) -/

/-- One bit of the CRC-8 with generator x^8 + x^2 + x + 1. -/
def crcBit (c : Byte) : Byte := if c.msb then (c <<< 1) ^^^ 0x07#8 else c <<< 1

/-- One byte of the check code, most significant bit first. -/
def crcByte (c b : Byte) : Byte :=
  crcBit (crcBit (crcBit (crcBit (crcBit (crcBit (crcBit (crcBit (c ^^^ b))))))))

/-- The check code of a string of bytes, with initial value 0 and no final inversion. -/
def checkCode (bs : List Byte) : Byte := bs.foldl crcByte 0#8

/-! ## Header, form and length (R62, R63) -/

/-- The five kinds of notice. -/
inductive NoticeKind where
  | restart
  | config
  | query
  | health
  | digest
  deriving DecidableEq, Repr

/-- The code of a kind (R62). -/
def NoticeKind.code (k : NoticeKind) : Byte :=
  match k with
  | .restart => 1#8
  | .config => 2#8
  | .query => 3#8
  | .health => 4#8
  | .digest => 5#8

/-- The body length that a kind requires (R63). -/
def NoticeKind.length (k : NoticeKind) : Nat :=
  match k with
  | .restart => 0
  | .config => 39
  | .query => 0
  | .health => 3
  | .digest => 37

/-- The kind that a kind byte names; any other value is an unknown kind (R62). -/
def readKind (b : Byte) : Option NoticeKind :=
  if b = 1#8 then some .restart
  else if b = 2#8 then some .config
  else if b = 3#8 then some .query
  else if b = 4#8 then some .health
  else if b = 5#8 then some .digest
  else none

end Sys2Proof.Machine

namespace Sys2Proof

open Machine

/-- The kind of a header of right form: a known kind with the length it requires (R43, R63). -/
def Header.kindInForm (h : Header) : Option NoticeKind :=
  match readKind h.kind with
  | some k => if h.len.toNat = k.length then some k else none
  | none => none

/-- The four header bytes in the order they are sent (R62). -/
def Header.bytes (h : Header) : List Byte := [h.kind, h.sender, h.target, h.len]

/-- The body bytes that a receiver samples: as many as the header's length byte says (R43). -/
def Notice.body (n : Notice) : List Byte := n.tail.take n.header.len.toNat

/-- The check byte that a receiver samples, where the notice is long enough to hold one (R43, R46). -/
def Notice.check (n : Notice) : Option Byte := n.tail[n.header.len.toNat]?

/-- All bytes of a notice as they pass on the wires. -/
def Notice.bytes (n : Notice) : List Byte := n.header.bytes ++ n.tail

/-- Whether the body and the check byte are all on the wires before the stop mark; a notice that is shorter is
truncated by its stop mark (R47). -/
def Notice.complete (n : Notice) : Bool := n.check.isSome

/-- Whether the check byte is the check code of header and body (R46). -/
def Notice.checkRight (n : Notice) : Bool :=
  n.check == some (checkCode (n.header.bytes ++ n.body))

end Sys2Proof

namespace Sys2Proof.Machine

/-- The notice that an MV432 or a management station sends with given header fields and body (R46, R54, R62). -/
def buildNotice (k : NoticeKind) (sender target : Byte) (body : List Byte) : Notice :=
  let h : Header :=
    { kind := k.code, sender := sender, target := target, len := BitVec.ofNat 8 body.length }
  { header := h, tail := body ++ [checkCode (h.bytes ++ body)] }

/-- The target id that means all stations (00 section 4.1). -/
def allStations : Nat := 31

/-- The highest and the lowest station id of an MV432 (00 section 4.1). -/
def isStationId (n : Nat) : Bool := decide (1 ≤ n) && decide (n ≤ 30)

/-- The station id that the straps give: their value, or 30 where that is 0 or 31 (R146). -/
def strapId (straps : BitVec 5) : Nat := if isStationId straps.toNat then straps.toNat else 30

/-- Whether the straps read 0 or 31, which sets the defaulted flag (R146, R155). -/
def strapsInvalid (straps : BitVec 5) : Bool := !isStationId straps.toNat

/-- Whether a notice with this header is relevant to the station `own` (R43). -/
def relevant (own : Nat) (h : Header) : Bool :=
  match h.kindInForm with
  | some .health => decide (h.sender.toNat ≠ own)
  | some .digest => false
  | some _ => decide (h.target.toNat = own) || decide (h.target.toNat = allStations)
  | none => false

/-! ## Arbitration (R41) -/

/-- Where a sender of `own` first differs from a rival notice, if the rival's byte there is the lower one: the number
of the byte at whose first differing bit the sender sent 1 and sampled 0 (R41). `none` where the sender never loses. -/
def lossAt (own rival : List Byte) : Option Nat :=
  match own, rival with
  | a :: as, b :: bs =>
    if a = b then (lossAt as bs).map (· + 1)
    else if b.toNat < a.toNat then some 0 else none
  | _, _ => none

/-! ## Reading fields -/

/-- Byte `i` of a body as an unsigned number. -/
def byteAt (body : List Byte) (i : Nat) : Nat := (body.getD i 0#8).toNat

/-- The 2-bit field `i` of a byte, field 0 in bits 7-6 (R65, R71). -/
def pairField (b i : Nat) : Nat := b / 4 ^ (3 - i) % 4

/-- The nearer bound of a range, or the value itself within it (00 section 4.4). -/
def clamp (lo hi v : Nat) : Nat := if v < lo then lo else if hi < v then hi else v

/-- A 2-bit port field as a port number (R71). -/
def portOfField (v : Nat) : PortId := Fin.ofNat 4 v

/-! ## CONFIG (R68 to R71, R148 to R150) -/

/-- The port map entry of one CONFIG byte (R69). -/
def readPortMap (b : Nat) : PortMap :=
  { absent := decide (b / 16 % 2 = 1), switch := Fin.ofNat 8 (b / 32),
    supervised := decide (b / 8 % 2 = 1) }

/-- The port map of a CONFIG body (R69). -/
def readPorts (body : List Byte) : Four PortMap :=
  Four.build fun p => readPortMap (byteAt body p.val)

/-- T_HI or T_LO as sent in the two bytes from `i` (R70). -/
def readThreshold (body : List Byte) (i : Nat) : Nat :=
  byteAt body i % 4 * 256 + byteAt body (i + 1)

/-- The length byte of the preference list of class `c` (R71). -/
def listLength (body : List Byte) (c : ClassId) : Nat := byteAt body (23 + 2 * c.val)

/-- The preference list of class `c`: the first L port fields of its second byte (R71). -/
def readList (body : List Byte) (c : ClassId) : List PortId :=
  let b := byteAt body (24 + 2 * c.val)
  [portOfField (pairField b 0), portOfField (pairField b 1), portOfField (pairField b 2),
    portOfField (pairField b 3)].take (listLength body c)

/-- Whether the content of a CONFIG body is refused: the seven cases of R149, in its order. -/
def configRefused (body : List Byte) : Bool :=
  allClasses.any (fun c => decide (4 < listLength body c)) ||
  allClasses.any (fun c => decide (¬ (readList body c).Nodup)) ||
  allClasses.any (fun c => (readList body c).any fun p => ((readPorts body).get p).absent) ||
  (decide (readThreshold body 5 < 16) || decide (1008 < readThreshold body 5)) ||
  decide (readThreshold body 5 < readThreshold body 7 + 16) ||
  allPorts.all (fun p => ((readPorts body).get p).absent) ||
  allClasses.all (fun c => decide (listLength body c = 0))

/-- EXPIRE raised to the smallest whole number of 100 ms that is not less than FRESH (R150). -/
def raiseExpire (fresh expire : Nat) : Nat :=
  if expire * 100 < fresh * 10 then (fresh * 10 + 99) / 100 else expire

/-- The configuration that an accepted CONFIG body gives, each field clamped into its range (R70, R148, R150). -/
def readConfig (body : List Byte) : Settings :=
  { portMap := readPorts body
    qCond := clamp 1 15 (byteAt body 4 / 16)
    qClear := clamp 1 15 (byteAt body 4 % 16)
    tHi := readThreshold body 5
    tLo := readThreshold body 7
    cvw := clamp 1 15 (byteAt body 9 % 16)
    decay := clamp 1 63 (byteAt body 10)
    probationEpochs := clamp 1 255 (byteAt body 11)
    helloLimit := clamp 1 255 (byteAt body 12)
    beacon := clamp 5 100 (byteAt body 13)
    fresh := clamp 10 255 (byteAt body 14)
    expire := raiseExpire (clamp 10 255 (byteAt body 14)) (clamp 1 255 (byteAt body 15))
    condemnHold := byteAt body 16
    revertHold := byteAt body 17
    stagger := byteAt body 18
    drainLimit := clamp 1 255 (byteAt body 19)
    refuseBackoff := clamp 1 255 (byteAt body 20)
    joinTime := clamp 10 250 (byteAt body 21)
    holdEn := decide (byteAt body 22 % 2 = 1)
    lists := Eight.build fun c => readList body c }

/-- The default configuration (R148). -/
def defaultSettings : Settings :=
  { portMap :=
      { p0 := { absent := false, switch := 0, supervised := true }
        p1 := { absent := false, switch := 1, supervised := true }
        p2 := { absent := false, switch := 0, supervised := true }
        p3 := { absent := false, switch := 1, supervised := true } }
    qCond := 2
    qClear := 3
    tHi := 256
    tLo := 64
    cvw := 4
    decay := 8
    probationEpochs := 20
    helloLimit := 30
    beacon := 10
    fresh := 35
    expire := 30
    condemnHold := 50
    revertHold := 30
    stagger := 20
    drainLimit := 50
    refuseBackoff := 10
    joinTime := 30
    holdEn := true
    lists := Eight.all [0, 1, 2, 3] }

/-! ## HEALTH (R65 to R67) -/

/-- The code of an opinion (R65). -/
def Opinion.code (o : Opinion) : Nat :=
  match o with
  | .none => 0
  | .clear => 1
  | .impaired => 2
  | .lost => 3

/-- The opinion of a 2-bit field; all four codes are defined (R67). -/
def readOpinion (v : Nat) : Opinion :=
  match v with
  | 0 => .none
  | 1 => .clear
  | 2 => .impaired
  | _ => .lost

/-- Four 2-bit fields in one byte, the first in bits 7-6 (R65, R72). -/
def packPairs (a b c d : Nat) : Byte := BitVec.ofNat 8 (a * 64 + b * 16 + c * 4 + d)

/-- The eight opinions of a HEALTH body (R65, R67). -/
def readOpinions (body : List Byte) : Eight Opinion :=
  Eight.build fun s => readOpinion (pairField (byteAt body (1 + s.val / 4)) (s.val % 4))

/-- The sender state of a HEALTH body: 2 is ACTIVE, every other value JOINING (R67). -/
def readSender (body : List Byte) : SenderState := if byteAt body 0 = 2 then .active else .joining

/-- The HEALTH body that reports a sender state and eight opinions (R65, R66). -/
def healthBody (state : SenderState) (o : Eight Opinion) : List Byte :=
  [(match state with | .joining => 1#8 | .active => 2#8),
    packPairs o.e0.code o.e1.code o.e2.code o.e3.code,
    packPairs o.e4.code o.e5.code o.e6.code o.e7.code]

/-! ## DIGEST codes (R73 to R75) -/

/-- The code of a station state (R73). A station in HOLD or in a warm reset sends no DIGEST. -/
def StationState.code (s : StationState) : Nat :=
  match s with
  | .unconfigured => 0
  | .joining => 1
  | .active => 2
  | .hold => 3
  | .resetting => 3

/-- The code of a port state (R74). -/
def PortState.code (s : PortState) : Nat :=
  match s with
  | .absent => 0
  | .down => 1
  | .probation => 2
  | .up => 3
  | .suspect => 4

/-- The code of a cause (R74). -/
def Cause.code (c : Cause) : Nat :=
  match c with
  | .start => 0
  | .signal => 1
  | .silent => 2
  | .errors => 3

/-- The code of a verdict (R74). -/
def Verdict.code (v : Verdict) : Nat :=
  match v with
  | .clear => 0
  | .doubted => 1
  | .condemned => 2

/-- The code of a class status (R75). -/
def ClassStatus.code (s : ClassStatus) : Nat :=
  match s with
  | .unused => 0
  | .unplaced => 1
  | .placed => 2
  | .moving => 3
  | .stranded => 4

/-- The code of a current port, 4 for none (R75). -/
def currentCode (p : Option PortId) : Nat :=
  match p with
  | some p => p.val
  | none => 4

/-- The code of a steering port state (R75). -/
def SteerState.code (s : SteerState) : Nat :=
  match s with
  | .ready => 0
  | .await => 1
  | .cancelling => 2
  | .stalled => 3
  | .offline => 4

/-- A flag as one bit. -/
def flagBit (b : Bool) : Nat := if b then 1 else 0

/-- A number as two bytes, most significant byte first (R74). -/
def twoBytes (v : Nat) : List Byte := [BitVec.ofNat 8 (v / 256), BitVec.ofNat 8 v]

/-- A station time as four bytes, most significant byte first (R73). -/
def timeBytes (t : Time) : List Byte :=
  [t.extractLsb' 24 8, t.extractLsb' 16 8, t.extractLsb' 8 8, t.extractLsb' 0 8]

end Sys2Proof.Machine
end

