-- ==== Sys2Proof/Machine/Flags.lean ====
section
/-! DEFINITION. What the machine computes from its state without changing it: the gates of section 9.2, the own
opinions, the counts and the condemn condition, tiers and the best port, eligibility, the output lines and the DIGEST
snapshot. -/

namespace Sys2Proof.Machine

/-! ## Gates and settings -/

/-- The settings in effect: the configuration store, or the defaults before configuration (R148). -/
def settings (s : State) : Settings := s.ctl.config.getD defaultSettings

/-- Station time at the event concerned (00 section 4.3). -/
def now (s : State) : Time := s.ctl.time

/-- Station time at the event concerned, to the microsecond. -/
def clock (s : State) : Instant := { time := s.ctl.time, micros := s.ctl.micros }

/-- The station takes events: it is UNCONFIGURED, JOINING or ACTIVE, not in HOLD and not in a warm reset
(section 9.2, R157, R159). -/
def awake (s : State) : Bool :=
  match s.ctl.state with
  | .unconfigured => true
  | .joining => true
  | .active => true
  | .hold => false
  | .resetting => false

/-- Whether the warm reset in progress may end: RSTN has been high for 100 µs in it (R157). -/
def warmResetOver (s : State) : Bool :=
  s.ctl.rstnHigh && decide (resetQuietMicros ≤ s.ctl.resetQuiet)

/-- The station is JOINING or ACTIVE. -/
def steers (s : State) : Bool :=
  match s.ctl.state with
  | .joining => true
  | .active => true
  | _ => false

/-! ## Own opinions (R32) -/

/-- The non-absent ports that the port map maps to a switch; none before configuration (R21, R105). -/
def mappedPorts (config : Option Settings) (sw : SwitchId) : List PortId :=
  match config with
  | some c =>
    allPorts.filter fun p => !(c.portMap.get p).absent && decide ((c.portMap.get p).switch = sw)
  | none => []

/-- The opinion that the states of the ports mapped to a switch give (R32). -/
def opinionOf (states : List PortState) : Opinion :=
  if states.isEmpty then .none
  else if states.all (· == .up) then .clear
  else if states.all (fun p => p == .down || p == .probation) then .lost
  else .impaired

/-- The own opinion of one switch, derived from the port states (R32). -/
def ownOpinion (s : State) (sw : SwitchId) : Opinion :=
  opinionOf ((mappedPorts s.ctl.config sw).map fun p => (s.ports.get p).state)

/-- All eight own opinions, derived (R32, R33). -/
def deriveOpinions (s : State) : Eight Opinion := Eight.build (ownOpinion s)

/-- Whether every non-absent port is UP: the port test of the joining window (R153). -/
def allPortsUp (s : State) : Bool :=
  allPorts.all fun p => (s.ports.get p).state == .absent || (s.ports.get p).state == .up

/-! ## Peers and verdicts -/

/-- Whether a peer entry is counted (R92). -/
def PeerEntry.counted (e : PeerEntry) : Bool := e.status == .fresh && e.sender == .active

/-- The accusers A(s) of a switch (R92). -/
def accusers (entries : List PeerEntry) (sw : SwitchId) : Nat :=
  entries.countP fun e => e.counted && e.opinions.get sw == .lost

/-- The clearers K(s) of a switch (R92). -/
def clearers (entries : List PeerEntry) (sw : SwitchId) : Nat :=
  entries.countP fun e => e.counted && e.opinions.get sw == .clear

/-- The number of counted peers (R92, R75). -/
def countedPeers (entries : List PeerEntry) : Nat := entries.countP PeerEntry.counted

/-- The three clauses of the condemn condition, over the values a recompute read at its start (R100). -/
def condemnCondition (r : Recompute) (mapped : Nat) (w : SwitchRecord) : Bool :=
  decide (r.qCond ≤ w.lastA) ||
  (w.opinionRead == .lost && decide (1 ≤ w.lastA)) ||
  (w.opinionRead == .lost && decide (2 ≤ mapped) && decide (w.lastK < r.qClear))

/-- The verdict of a switch that is not condemned: DOUBTED or CLEAR (R101). -/
def lesserVerdict (w : SwitchRecord) : Verdict :=
  if decide (1 ≤ w.lastA) || w.opinionRead == .impaired || w.opinionRead == .lost then .doubted
  else .clear

/-! ## Tiers and the best port -/

/-- Whether a class is in use (R110). -/
def ClassRecord.inUse (c : ClassRecord) : Bool := !c.prefs.isEmpty

/-- The verdict on the switch that the port map maps a port to (R112). -/
def portVerdict (s : State) (p : PortId) : Verdict :=
  (s.verdicts.switches.get ((settings s).portMap.get p).switch).verdict

/-- The tier of a port of a class's list, `none` where it is unusable for the class (R112). -/
def portTier (s : State) (c : ClassRecord) (p : PortId) : Option Nat :=
  if (c.barred.get p).isSome then none
  else
    match (s.ports.get p).state with
    | .up => if portVerdict s p = .condemned then some 3 else some 1
    | .suspect => if portVerdict s p = .condemned then some 3 else some 2
    | _ => none

/-- The first port in list order in a given tier. -/
def firstInTier (s : State) (c : ClassRecord) (tier : Nat) : Option PortId :=
  c.prefs.find? fun p => portTier s c p == some tier

/-- The best port of a class (R113). -/
def bestPort (s : State) (c : ClassRecord) : Option PortId :=
  (firstInTier s c 1).or ((firstInTier s c 2).or (firstInTier s c 3))

/-- The outcome of an evaluation (R116). -/
inductive Decision where
  | stranded
  | place (b : PortId)
  | stay
  | evacuate (b : PortId)
  | shed (b : PortId)
  | revert (b : PortId)
  deriving DecidableEq, Repr

/-- The tests of R116 in their order. -/
def decideMove (s : State) (c : ClassRecord) : Decision :=
  match bestPort s c with
  | none => .stranded
  | some b =>
    match c.current with
    | none => .place b
    | some cur =>
      if cur = b then .stay
      else
        match portTier s c cur, portTier s c b with
        | none, _ => .evacuate b
        | some tc, some tb =>
          if tb < tc then .shed b
          else if 0 < (settings s).revertHold && (s.ports.get b).revertReady then .revert b
          else .stay
        | some _, none => .stay

/-- Mode of a move (R116). -/
def MoveKind.mode (k : MoveKind) : MoveMode :=
  match k with
  | .place => .forced
  | .evacuate => .forced
  | .shed => .drained
  | .revert => .drained

/-- Rank of a move queue entry (R128). -/
def MoveKind.rank (k : MoveKind) : Nat :=
  match k with
  | .place => 0
  | .evacuate => 0
  | .shed => 1
  | .revert => 2

/-- The stagger delay of a wanted move, in milliseconds (R120). -/
def staggerMs (s : State) (k : MoveKind) : Nat :=
  match k with
  | .place => 0
  | .evacuate => 0
  | .shed => s.ctl.id * (settings s).stagger
  | .revert => s.ctl.id * (settings s).stagger

/-- The order of the move queue: rank, then queued-at, then class number (R129). -/
def QueueEntry.precedes (a b : QueueEntry) : Bool :=
  decide (a.kind.rank < b.kind.rank) ||
  (decide (a.kind.rank = b.kind.rank) &&
    (earlier a.queuedAt b.queuedAt ||
      (decide (a.queuedAt = b.queuedAt) && decide (a.cls.val < b.cls.val))))

/-- Whether an entry of the move queue is eligible (R135). Its earliest-start is a station time, a whole millisecond
(R128, R147; notes/assumptions/32.md). -/
def entryEligible (s : State) (e : QueueEntry) : Bool :=
  reached (now s) e.earliestStart && (s.ctl.state != .joining || e.kind == .place)

/-- The entry that the issue test finds, where the conditions of R135 hold. -/
def issuable (s : State) : Option QueueEntry :=
  if s.mux.port = .ready && steers s then s.mux.queue.find? (entryEligible s) else none

/-! ## The station bus -/

/-- The own id as a byte of a header (R62). -/
def ownByte (s : State) : Byte := BitVec.ofNat 8 s.ctl.id

/-- Whether the station may hold at the hold slot: HOLD_EN, on before configuration (R44). -/
def holdEnabled (s : State) : Bool := (settings s).holdEn

/-- Whether BCK and BDT are high together: the bus-free timer runs (R39). -/
def Wires.high (w : Wires) : Bool := !w.clockRuns && !w.dataLow

/-- Whether the bus is free for the station (R39). -/
def busFree (s : State) : Bool :=
  s.bus.activity == .idle && s.bus.wires.high && decide (busFreeMicros ≤ s.bus.quiet) &&
    decide (busFreeMicros ≤ s.bus.sinceEvent)

/-- Whether the hold in progress has reached its limit (R44). -/
def holdOver (s : State) : Bool :=
  match s.bus.hold with
  | some t => decide (holdLimitMicros ≤ t)
  | none => false

/-- The gate under which a HEALTH may become due or be sent: JOINING or ACTIVE, and not silenced (R76). -/
def healthGate (s : State) : Bool := steers s && !s.ctl.silenced

/-- Whether a transmit queue entry is a HEALTH entry. -/
def TxEntry.isHealth (e : TxEntry) : Bool :=
  match e with
  | .health => true
  | .digest _ _ => false

/-- Whether the transmit queue holds a HEALTH entry, including one being sent. -/
def hasHealth (s : State) : Bool := s.bus.queue.any TxEntry.isHealth

/-- Whether the transmit queue holds a DIGEST entry, including one being sent (R49). -/
def hasDigest (s : State) : Bool := s.bus.queue.any fun e => !e.isHealth

/-- Whether the station is RECEIVING. -/
def isReceiving (s : State) : Bool :=
  match s.bus.activity with
  | .receiving _ => true
  | _ => false

/-- Whether the station is SENDING. -/
def isSending (s : State) : Bool :=
  match s.bus.activity with
  | .sending _ _ => true
  | _ => false

/-- Whether the entry being sent is the HEALTH entry (R55). -/
def sendingHealth (s : State) : Bool :=
  match s.bus.activity with
  | .sending e _ => e.isHealth
  | _ => false

/-- Whether 20 ms have passed since the end of the last HEALTH, or none has completed (R54), to the
microsecond. -/
def healthGapOver (s : State) : Bool :=
  match s.bus.lastHealthEnd with
  | none => true
  | some t =>
    decide (healthGapMs * microsPerMs + t.micros ≤ (now s - t.time).toNat * microsPerMs + s.ctl.micros)

/-- Whether a transmit queue entry is eligible (R54); a HEALTH is sent only under the gate of R76. -/
def txEligible (s : State) (e : TxEntry) : Bool :=
  match e with
  | .digest _ _ => true
  | .health => healthGate s && healthGapOver s

/-- The first eligible entry in queue order (R54). -/
def nextEntry (s : State) : Option TxEntry := s.bus.queue.find? (txEligible s)

/-- The sender state that the station reports of itself (R66). -/
def ownSenderState (s : State) : SenderState :=
  if s.ctl.state = .active then .active else .joining

/-- The notice built at the start mark for a transmit queue entry (R54, R66, R162). -/
def buildEntry (s : State) (e : TxEntry) : Notice :=
  match e with
  | .health =>
    buildNotice .health (ownByte s) (BitVec.ofNat 8 allStations)
      (healthBody (ownSenderState s) s.opinions)
  | .digest target body => buildNotice .digest (ownByte s) target body

/-- Whether the receive slot holds a HEALTH that may be absorbed: its take slot has ended (R85). -/
def healthWaiting (s : State) : Option Notice :=
  match s.bus.slot with
  | none => none
  | some n =>
    if readKind n.header.kind = some .health then
      match s.bus.activity with
      | .receiving (.taking _ true) => none
      | _ => some n
    else none

/-! ## Output lines -/

/-- Whether the station drives ALRTN low (R164); in HOLD the line is released (R159). -/
def alertLow (s : State) : Bool :=
  s.ctl.state != .hold &&
  (allClasses.any (fun c =>
      (s.classes.get c).inUse && (s.classes.get c).status == .stranded) ||
    s.ctl.silenced || s.mux.port == .stalled ||
    (s.mux.port == .offline && s.ctl.state == .active))

/-- The level driven on SRDY; `none` where it is released to high impedance (R144). -/
def srdy (s : State) : Option Bool :=
  match s.ctl.state with
  | .hold => none
  | .joining => some true
  | .active => some true
  | .unconfigured => some false
  | .resetting => some false

/-- The levels on the steering outputs MREQ, MCAN, MCLS, MTGT and MMODE (R133). -/
structure SteeringLines where
  mreq : Bool
  mcan : Bool
  mcls : ClassId
  mtgt : PortId
  mmode : Bool
  deriving DecidableEq, Repr

/-- The levels driven on the steering outputs (R133); `none` where they are released to high impedance (R145, R159). -/
def steeringLines (s : State) : Option SteeringLines :=
  if s.ctl.state = .hold then none
  else
    some
      { mreq := decide (0 < s.mux.pins.mreq), mcan := decide (0 < s.mux.pins.mcan),
        mcls := s.mux.pins.mcls, mtgt := s.mux.pins.mtgt, mmode := s.mux.pins.mmode }

/-- Whether the station holds BCK low at a hold slot (R44). -/
def holdsClock (s : State) : Bool := s.bus.hold.isSome

/-- Whether the station drives BDT low in the take slot it is in (R50). -/
def drivesTakeSlot (s : State) : Bool :=
  match s.bus.activity with
  | .receiving (.taking _ taken) => taken
  | _ => false

/-! ## The DIGEST snapshot (R72 to R75, R160) -/

/-- Byte 0: station state and flags (R73). -/
def digestFlags (s : State) : Byte :=
  BitVec.ofNat 8
    (s.ctl.state.code * 64 + flagBit s.ctl.silenced * 32 + flagBit s.bus.overrun * 16 +
      flagBit s.ctl.lateConfig * 8 + flagBit s.ctl.defaulted * 4 + flagBit s.bus.lastTaken * 2)

/-- The five bytes of one port (R74). -/
def digestPort (s : State) (p : PortId) : List Byte :=
  let r := s.ports.get p
  BitVec.ofNat 8 (r.state.code * 16 + r.cause.code) ::
    (twoBytes r.score ++ twoBytes (s.lanes.get p).peak)

/-- The byte of one class (R75). -/
def digestClass (s : State) (c : ClassId) : Byte :=
  let r := s.classes.get c
  BitVec.ofNat 8 (r.status.code * 32 + currentCode r.current * 4)

/-- The code of the verdict on one switch. -/
def verdictCode (s : State) (sw : SwitchId) : Nat := (s.verdicts.switches.get sw).verdict.code

/-- The 37-byte body of a DIGEST (R72). -/
def digestBody (s : State) : List Byte :=
  [digestFlags s] ++ timeBytes s.ctl.time ++
  digestPort s 0 ++ digestPort s 1 ++ digestPort s 2 ++ digestPort s 3 ++
  [packPairs (verdictCode s 0) (verdictCode s 1) (verdictCode s 2) (verdictCode s 3),
    packPairs (verdictCode s 4) (verdictCode s 5) (verdictCode s 6) (verdictCode s 7)] ++
  allClasses.map (digestClass s) ++
  [BitVec.ofNat 8 (s.mux.queue.length * 16 + s.mux.port.code),
    BitVec.ofNat 8 (countedPeers s.view.entries)]

end Sys2Proof.Machine
end

