-- ==== Sys2Proof/Machine/Ops.lean ====
section
/-! DEFINITION. The shared operations of the blocks that other blocks call on: updates of one record, a HEALTH becoming
due, a recompute request, silencing, and the changes of the peer view table. -/

namespace Sys2Proof.Machine

/-! ## Updates of one record -/

def State.setLane (s : State) (p : PortId) (l : Lane) : State := { s with lanes := s.lanes.set p l }

def State.setPort (s : State) (p : PortId) (r : PortRecord) : State :=
  { s with ports := s.ports.set p r }

def State.setClass (s : State) (c : ClassId) (r : ClassRecord) : State :=
  { s with classes := s.classes.set c r }

def State.setSwitch (s : State) (sw : SwitchId) (w : SwitchRecord) : State :=
  { s with verdicts := { s.verdicts with switches := s.verdicts.switches.set sw w } }

def State.setBus (s : State) (b : Bus) : State := { s with bus := b }

def State.setMux (s : State) (m : Mux) : State := { s with mux := m }

def State.setStation (s : State) (c : Station) : State := { s with ctl := c }

def State.setEntries (s : State) (es : List PeerEntry) : State :=
  { s with view := { s.view with entries := es } }

/-! ## A HEALTH becomes due (R53, R55, R57, R76) -/

/-- A HEALTH due signal reaches the transmit queue (R53, R55). -/
def healthDue (s : State) : State :=
  if sendingHealth s then s.setBus { s.bus with dueMark := true }
  else if hasHealth s then s
  else s.setBus { s.bus with queue := s.bus.queue ++ [.health] }

/-- A cause reaches health reporting: it passes the gate of R76 or is dropped. -/
def healthCause (s : State) : State := if healthGate s then healthDue s else s

/-- The beacon timer is started, or restarted, with BEACON (R77). -/
def startBeacon (s : State) : State :=
  { s with beacon := startTimer (clock s) ((settings s).beacon * 10) }

/-- A clash is reported to the station controller: the station becomes silenced if it is not (R57, R58, R81, R156). -/
def silence (s : State) : State :=
  if s.ctl.silenced then s
  else
    { s with
      ctl := { s.ctl with silenced := true }
      beacon := .stopped
      bus := { s.bus with queue := s.bus.queue.filter fun e => !e.isHealth } }

/-! ## Recompute requests (R95, R96) -/

/-- What the record of a switch latches at the start of a recompute (R96). -/
def latchSwitch (s : State) (sw : SwitchId) : SwitchRecord :=
  { s.verdicts.switches.get sw with
    opinionRead := s.opinions.get sw
    lastA := accusers s.view.entries sw
    lastK := clearers s.view.entries sw }

/-- The start of a recompute: it reads every input, and the again flag is cleared (R96, R98). -/
def startRecompute (s : State) : State :=
  { s with
    verdicts :=
      { switches := Eight.build (latchSwitch s)
        activity := .recomputing
          { qCond := (settings s).qCond, qClear := (settings s).qClear,
            mapped := Eight.build fun sw => (mappedPorts s.ctl.config sw).length, elapsed := 0 }
        again := false } }

/-- A recompute request: it starts a recompute, or sets the again flag of the one in progress (R95). -/
def requestRecompute (s : State) : State :=
  match s.verdicts.activity with
  | .idle => startRecompute s
  | .recomputing _ => { s with verdicts := { s.verdicts with again := true } }

/-! ## The peer view table (R84, R86 to R89) -/

/-- The entry of a station id, if the table holds one. -/
def findPeer (entries : List PeerEntry) (id : Nat) : Option PeerEntry :=
  entries.find? fun e => e.id = id

/-- The table without the entry of a station id. -/
def erasePeer (entries : List PeerEntry) (id : Nat) : List PeerEntry :=
  entries.filter fun e => e.id ≠ id

/-- The table with an entry put in its place by id, in increasing id order (R84). -/
def placePeer (entries : List PeerEntry) (e : PeerEntry) : List PeerEntry :=
  match entries with
  | [] => [e]
  | x :: xs => if e.id < x.id then e :: x :: xs else x :: placePeer xs e

/-- The table with an entry written over the one of its id, or added (R84, R86). -/
def storePeer (entries : List PeerEntry) (e : PeerEntry) : List PeerEntry :=
  placePeer (erasePeer entries e.id) e

/-- The entry that the absorption of a HEALTH leaves (R67, R83, R86, R89). -/
def absorbedEntry (s : State) (n : Notice) : PeerEntry :=
  { id := n.header.sender.toNat
    sender := readSender n.body
    opinions := readOpinions n.body
    lastHeard := now s
    status := .fresh
    freshTimer := startCounted (now s) ((settings s).fresh * 10)
    expiryTimer := startCounted (now s) ((settings s).expire * 100) }

/-- Absorption without its recompute request: the entry is written, and the receive slot is emptied, which ends a hold
(R44, R51, R85, R86). -/
def absorb (n : Notice) (s : State) : State :=
  { s with
    view := { s.view with entries := storePeer s.view.entries (absorbedEntry s n) }
    bus := { s.bus with slot := none, hold := none } }

/-- A peer entry after the expiry of its freshness timer (R87). -/
def PeerEntry.goStale (e : PeerEntry) : PeerEntry :=
  { e with status := .stale, freshTimer := .expired }

/-- Whether the freshness timer of the entry of a station id is running. -/
def freshRunning (s : State) (id : Nat) : Bool :=
  match findPeer s.view.entries id with
  | some e => e.freshTimer.isRunning
  | none => false

/-- Whether the expiry timer of the entry of a station id is running. -/
def expiryRunning (s : State) (id : Nat) : Bool :=
  match findPeer s.view.entries id with
  | some e => e.expiryTimer.isRunning
  | none => false

/-- Whether the freshness timer of the entry of a station id has run out (R87). -/
def freshDue (s : State) (id : Nat) : Bool :=
  match findPeer s.view.entries id with
  | some e => e.freshTimer.isDue (clock s)
  | none => false

/-- Whether the expiry timer of the entry of a station id has run out (R88). -/
def expiryDue (s : State) (id : Nat) : Bool :=
  match findPeer s.view.entries id with
  | some e => e.expiryTimer.isDue (clock s)
  | none => false

/-- The freshness timer of an entry expires: the entry becomes STALE (R87). -/
def peerStale (id : Nat) (s : State) : State :=
  s.setEntries (s.view.entries.map fun e => if e.id = id then e.goStale else e)

/-- The expiry timer of an entry expires: the entry is removed (R88). -/
def peerRemoved (id : Nat) (s : State) : State := s.setEntries (erasePeer s.view.entries id)

/-- Whether a removal makes a recompute request: the entry was FRESH (R88). -/
def removalRequests (s : State) (id : Nat) : Bool :=
  match findPeer s.view.entries id with
  | some e => e.status == .fresh
  | none => false

/-- A held expiry is recorded once (R90). -/
def holdExpiry (h : HeldExpiry) (s : State) : State :=
  if s.view.held.contains h then s
  else { s with view := { s.view with held := s.view.held ++ [h] } }

/-- One held expiry takes effect at the completion of a recompute; the answer says whether it makes a request (R90). -/
def applyHeld (h : HeldExpiry) (s : State) : State × Bool :=
  match h with
  | .freshness id => if freshRunning s id then (peerStale id s, true) else (s, false)
  | .removal id =>
    if expiryRunning s id then (peerRemoved id s, removalRequests s id) else (s, false)

/-- The held expiries take effect one after the other; the answer says whether any makes a request (R90). -/
def applyAllHeld (hs : List HeldExpiry) (s : State) : State × Bool :=
  match hs with
  | [] => (s, false)
  | h :: rest =>
    let first := applyHeld h s
    let others := applyAllHeld rest first.1
    (others.1, first.2 || others.2)

/-- The station whose entry a held expiry concerns. -/
def HeldExpiry.id (h : HeldExpiry) : Nat :=
  match h with
  | .freshness id => id
  | .removal id => id

end Sys2Proof.Machine
end

