-- ==== Sys2Proof/Machine/Steer.lean ====
section
/-! DEFINITION. The shared operations of class steering, the move queue and the steering port (Chapters 7 and 8): the
update of a queue entry, the evaluation of a class, the issue test, a cancel, and the end of a move. -/

namespace Sys2Proof.Machine

/-! ## The move queue (R129 to R131) -/

/-- The queue with an entry put in its place by the order of R129. -/
def insertEntry (e : QueueEntry) (q : List QueueEntry) : List QueueEntry :=
  match q with
  | [] => [e]
  | x :: xs => if e.precedes x then e :: x :: xs else x :: insertEntry e xs

/-- The queue without the entry of a class. -/
def removeEntry (c : ClassId) (q : List QueueEntry) : List QueueEntry :=
  q.filter fun e => e.cls ≠ c

/-- The entry of a class, if the queue holds one. -/
def findEntry (c : ClassId) (q : List QueueEntry) : Option QueueEntry := q.find? fun e => e.cls = c

/-- The queue with the entry of a class changed where it stands. -/
def replaceEntry (e : QueueEntry) (q : List QueueEntry) : List QueueEntry :=
  q.map fun x => if x.cls = e.cls then e else x

/-- The entry that a newly wanted move creates (R120, R130). -/
def newEntry (s : State) (c : ClassId) (k : MoveKind) (b : PortId) : QueueEntry :=
  { cls := c, kind := k, target := b, queuedAt := now s,
    earliestStart := later (now s) (staggerMs s k) }

/-- An entry after a change to another kind (R131). PLACE among these cannot arise (notes/assumptions/20.md). -/
def rekindEntry (s : State) (e : QueueEntry) (k : MoveKind) (b : PortId) : QueueEntry :=
  { e with
    kind := k
    target := b
    earliestStart :=
      match k with
      | .place => now s
      | .evacuate => now s
      | .shed => later e.queuedAt (staggerMs s k)
      | .revert => later e.queuedAt (staggerMs s k) }

/-- The queue after an evaluation handed it a wanted move (R130, R131). -/
def wantedQueue (s : State) (c : ClassId) (k : MoveKind) (b : PortId) : List QueueEntry :=
  match findEntry c s.mux.queue with
  | none => insertEntry (newEntry s c k b) s.mux.queue
  | some e =>
    if e.kind = k then replaceEntry { e with target := b } s.mux.queue
    else if e.kind.rank = k.rank then replaceEntry (rekindEntry s e k b) s.mux.queue
    else insertEntry (rekindEntry s e k b) (removeEntry c s.mux.queue)

/-- An evaluation hands the move queue a wanted move (R119, R130). -/
def wantMove (c : ClassId) (k : MoveKind) (b : PortId) (s : State) : State :=
  s.setMux { s.mux with queue := wantedQueue s c k b }

/-- An evaluation hands the move queue "no move wanted" (R119, R130). -/
def wantNoMove (c : ClassId) (s : State) : State :=
  s.setMux { s.mux with queue := removeEntry c s.mux.queue }

/-- The status of a class is written. -/
def setStatus (c : ClassId) (st : ClassStatus) (s : State) : State :=
  s.setClass c { s.classes.get c with status := st }

/-! ## Evaluation (R115 to R118) -/

/-- Whether a trigger leads to an evaluation of a class (R115). -/
def evaluates (s : State) (c : ClassId) : Bool :=
  steers s && (s.classes.get c).inUse && (s.classes.get c).status != .moving

/-- What an evaluation in ACTIVE does with its outcome (R117, R119). -/
def actInActive (c : ClassId) (d : Decision) (s : State) : State :=
  match d with
  | .stranded => wantNoMove c (setStatus c .stranded s)
  | .place b => wantMove c .place b (setStatus c .unplaced s)
  | .stay => wantNoMove c (setStatus c .placed s)
  | .evacuate b => wantMove c .evacuate b (setStatus c .placed s)
  | .shed b => wantMove c .shed b (setStatus c .placed s)
  | .revert b => wantMove c .revert b (setStatus c .placed s)

/-- What an evaluation in JOINING does with its outcome (R118). -/
def actInJoining (c : ClassId) (d : Decision) (s : State) : State :=
  match d with
  | .stranded => wantNoMove c s
  | .place b => wantMove c .place b (setStatus c .unplaced s)
  | .stay => wantNoMove c (setStatus c .placed s)
  | .evacuate _ => s
  | .shed _ => s
  | .revert _ => s

/-- An evaluation trigger for one class (R115 to R119). -/
def evaluate (c : ClassId) (s : State) : State :=
  if evaluates s c then
    if s.ctl.state = .active then actInActive c (decideMove s (s.classes.get c)) s
    else actInJoining c (decideMove s (s.classes.get c)) s
  else s

/-- An evaluation trigger for every in-use class, in class-number order (R114; notes/assumptions/10.md). -/
def evaluateAll (s : State) : State := allClasses.foldl (fun t c => evaluate c t) s

/-! ## The output pins (R133) -/

/-- A drive begins: the lines are set for a request, ahead of its MREQ strobe, or the MCAN strobe of a cancel rises. -/
def SteerPins.start (d : Drive) (p : SteerPins) : SteerPins :=
  match d with
  | .request m =>
    { p with
      mcls := m.cls, mtgt := m.target, mmode := decide (m.mode = .drained), setUp := setUpMicros }
  | .cancel => { p with mcan := strobeMicros }

/-- Whether no set-up and no strobe is in progress. -/
def SteerPins.resting (p : SteerPins) : Bool := p.setUp == 0 && p.mreq == 0 && p.mcan == 0

/-- A drive is made, once those before it have been: the lines are set for a microsecond before MREQ rises, each strobe
rises by itself, and an MCAN strobe ends with the lines as its request set them (R133; notes/assumptions/37.md). -/
def SteerPins.drive (d : Drive) (p : SteerPins) : SteerPins :=
  if p.resting && p.waiting.isEmpty then p.start d else { p with waiting := p.waiting ++ [d] }

/-! ## Issue (R135, R136) -/

/-- The outstanding move that the issue of an entry creates (R136). -/
def QueueEntry.move (e : QueueEntry) : Move := { cls := e.cls, target := e.target, mode := e.kind.mode }

/-- The request for an entry is issued: the five items of R136. -/
def issueEntry (e : QueueEntry) (s : State) : State :=
  let r := s.classes.get e.cls
  { s with
    classes := s.classes.set e.cls { r with status := .moving, target := some e.target }
    mux :=
      { s.mux with
        queue := removeEntry e.cls s.mux.queue
        outstanding := some e.move
        pins := s.mux.pins.drive (.request e.move)
        port := .await
        answerLimit := startTimer (clock s)
          (match e.kind.mode with
            | .forced => forcedLimitMs
            | .drained => (settings s).drainLimit * 10) } }

/-- The issue test: the first eligible entry is issued where the conditions hold (R135). -/
def issueTest (s : State) : State :=
  match issuable s with
  | some e => issueEntry e s
  | none => s

/-! ## Cancel (R138) -/

/-- The outstanding move of a port in AWAIT, if it is DRAINED. -/
def drainedInAwait (s : State) : Option Move :=
  match s.mux.port, s.mux.outstanding with
  | .await, some m => if m.mode = .drained then some m else none
  | _, _ => none

/-- A cancel is sent: MCAN is strobed and the port enters CANCELLING (R138). -/
def sendCancel (s : State) : State :=
  s.setMux
    { s.mux with
      answerLimit := .stopped
      pins := s.mux.pins.drive .cancel
      port := .cancelling
      cancelLimit := startTimer (clock s) cancelLimitMs }

/-- Whether a change of the state of port `p` is a cancel trigger for the move `m` (R138). -/
def cancelsMove (s : State) (p : PortId) (m : Move) : Bool :=
  (decide (p = m.target) &&
      ((s.ports.get p).state == .down || (s.ports.get p).state == .probation)) ||
  ((s.classes.get m.cls).current == some p && (s.ports.get p).state == .down)

/-- The steering port controller is handed a change of the state of port `p` (R34, R138). -/
def cancelTrigger (p : PortId) (s : State) : State :=
  match drainedInAwait s with
  | some m => if cancelsMove s p m then sendCancel s else s
  | none => s

/-! ## The end of a move (R137, R139, R142) -/

/-- A class record after DONE (R137). -/
def ClassRecord.arrive (r : ClassRecord) (target : PortId) : ClassRecord :=
  { r with current := some target, status := .placed, target := none }

/-- A class record after a move that ended on its origin (R137, R139). -/
def ClassRecord.remain (r : ClassRecord) : ClassRecord :=
  { r with
    status := (match r.current with | some _ => .placed | none => .unplaced)
    target := none }

/-- A port is barred for a class: its backoff timer is started, or restarted (R121). -/
def ClassRecord.bar (r : ClassRecord) (p : PortId) (t : Timer) : ClassRecord :=
  { r with barred := r.barred.set p (some t) }

/-- A class record of which the station knows no port any more (R142, R143). -/
def ClassRecord.unplace (r : ClassRecord) : ClassRecord :=
  { r with status := .unplaced, current := none, target := none }

/-- The outstanding move record is removed and both limit timers are stopped; the port enters a state. -/
def Mux.endMove (m : Mux) (port : SteerState) : Mux :=
  { m with outstanding := none, answerLimit := .stopped, cancelLimit := .stopped, port := port }

/-- A move ends by an answer: the class record first, then READY, then the evaluation of the class, then the issue test
(R137, R139). -/
def finishMove (c : ClassId) (r : ClassRecord) (s : State) : State :=
  issueTest (evaluate c ((s.setClass c r).setMux (s.mux.endMove .ready)))

/-- The backoff timer of a port refused now (R121). -/
def backoffTimer (s : State) : Timer := startTimer (clock s) ((settings s).refuseBackoff * 100)

end Sys2Proof.Machine
end

