-- ==== Sys2Proof/Machine/Ports.lean ====
section
/-! DEFINITION. The shared operations of the port health unit and of the station's entry to JOINING and to ACTIVE:
what a change of port state hands onward, the entries to DOWN, PROBATION and UP, the PROBATION check and the judgement
of an epoch result (Chapter 2, R153). -/

namespace Sys2Proof.Machine

/-! ## Entry to JOINING and to ACTIVE (R153) -/

/-- The station enters ACTIVE: a state cause, an evaluation trigger for every in-use class, and the issue test
(R79, R114, R153). -/
def enterActive (s : State) : State :=
  issueTest (evaluateAll (healthCause
    (s.setStation { s.ctl with state := .active, joinTime := .stopped })))

/-- The station enters JOINING: the joining window begins, the beacon timer is started unless the station is silenced,
a state cause is raised, and the issue test is made (R77, R79, R81, R135, R153). -/
def enterJoining (s : State) : State :=
  let t := s.setStation
    { s.ctl with
      state := .joining
      joinTime := startTimer (clock s) ((settings s).joinTime * 100) }
  issueTest (healthCause (if t.ctl.silenced then t else startBeacon t))

/-- The port test of the joining window, made at a change of port state (R153). -/
def joiningTest (s : State) : State :=
  if s.ctl.state = .joining && allPortsUp s then enterActive s else s

/-! ## Handing onward (R33, R34) -/

/-- The own opinions are derived again; a change makes a HEALTH due and requests a recompute (R33). -/
def rederive (s : State) : State :=
  let o := deriveOpinions s
  if o = s.opinions then s else requestRecompute (healthCause { s with opinions := o })

/-- A change of the state of port `p` is handed onward: the opinions, the cancel triggers, the evaluation triggers with
the issue test they bring, and the port test of the joining window (R33, R34, R135, R138, R153;
notes/assumptions/10.md). -/
def portChanged (p : PortId) (s : State) : State :=
  joiningTest (issueTest (evaluateAll (cancelTrigger p (rederive s))))

/-! ## Entries (R22, R23, R27, R28) -/

/-- A port record in DOWN (R27). -/
def PortRecord.fall (r : PortRecord) (cause : Cause) : PortRecord :=
  { r with
    state := .down
    cause := cause
    score := 1023
    cleanEpochs := 0
    upSince := none
    revertTimer := none
    revertReady := false }

/-- A lane whose port has entered DOWN: its hello timer stops and its flag is cleared (R12, R13). -/
def Lane.quieten (l : Lane) : Lane := { l with helloTimer := .stopped, helloSeen := false }

/-- A port in PROBATION, UP or SUSPECT enters DOWN with a cause (R27). -/
def enterDown (p : PortId) (cause : Cause) (s : State) : State :=
  portChanged p ((s.setPort p ((s.ports.get p).fall cause)).setLane p (s.lanes.get p).quieten)

/-- The hello timer of a lane started or restarted with HELLO_LIMIT (R12). -/
def helloTimerFrom (s : State) : Timer := startCounted (now s) ((settings s).helloLimit * 10)

/-- A DOWN port enters PROBATION (R12, R22). -/
def enterProbation (p : PortId) (s : State) : State :=
  let l := s.lanes.get p
  portChanged p
    ((s.setPort p { s.ports.get p with state := .probation, cleanEpochs := 0 }).setLane p
      { l with helloTimer := if l.supervised then helloTimerFrom s else l.helloTimer })

/-- A port record that enters UP from PROBATION at a given time (R23, R28). -/
def PortRecord.rise (r : PortRecord) (upAt : Time) (revertHold : Nat) : PortRecord :=
  { r with
    state := .up
    score := 0
    cleanEpochs := r.cleanEpochs + 1
    upSince := some upAt
    revertTimer := some (if 0 < revertHold then startCounted upAt (revertHold * 1000) else .stopped)
    revertReady := false }

/-- A port in PROBATION enters UP (R23, R28). -/
def enterUp (p : PortId) (s : State) : State :=
  portChanged p (s.setPort p ((s.ports.get p).rise (now s) (settings s).revertHold))

/-! ## The PROBATION check (R22) -/

/-- The hello-seen condition of a lane: the flag, or met where supervision is off (R13). -/
def Lane.helloMet (l : Lane) : Bool := !l.supervised || l.helloSeen

/-- Whether the PROBATION check of a port succeeds on a report from its lane (R22). -/
def probationReady (s : State) (p : PortId) : Bool :=
  steers s && (s.ports.get p).state == .down && (s.lanes.get p).level == some true &&
    (s.lanes.get p).helloMet

/-- The PROBATION check of R22, made at a signal present, hello seen or lane status report. -/
def probationCheck (p : PortId) (s : State) : State :=
  if probationReady s p then enterProbation p s else s

/-- The lane status reports of all present lanes, in lane order (R17). -/
def laneStatusReports (s : State) : State :=
  allPorts.foldl (fun t p => if (t.lanes.get p).present then probationCheck p t else t) s

/-! ## Epoch results (R23 to R26) -/

/-- The score after an epoch result of an UP or SUSPECT port (R24). -/
def newScore (c : Settings) (score e : Nat) : Nat :=
  if e = 0 then score - c.decay else min 1023 (score + min 255 (e * c.cvw))

/-- An epoch result delivered to a port in PROBATION (R23). -/
def judgeProbation (p : PortId) (e : Nat) (s : State) : State :=
  let r := s.ports.get p
  if e = 0 then
    if r.cleanEpochs + 1 < (settings s).probationEpochs then
      s.setPort p { r with cleanEpochs := r.cleanEpochs + 1 }
    else enterUp p s
  else enterDown p .errors s

/-- An epoch result delivered to an UP or SUSPECT port: the score, and the tests of R25 in their order. -/
def judgeScore (p : PortId) (e : Nat) (s : State) : State :=
  let r := s.ports.get p
  let v := newScore (settings s) r.score e
  if v = 1023 then enterDown p .errors s
  else if r.state = .up && (settings s).tHi ≤ v then
    portChanged p (s.setPort p { r with score := v, state := .suspect })
  else if r.state = .suspect && v ≤ (settings s).tLo then
    portChanged p (s.setPort p { r with score := v, state := .up })
  else s.setPort p { r with score := v }

/-- An epoch result reaches a port record (R23 to R26). -/
def deliverEpoch (p : PortId) (e : Nat) (s : State) : State :=
  match (s.ports.get p).state with
  | .absent => s
  | .down => s
  | .probation => judgeProbation p e s
  | .up => judgeScore p e s
  | .suspect => judgeScore p e s

end Sys2Proof.Machine
end

