-- ==== Sys2Proof/Machine/Resets.lean ====
section
/-! DEFINITION. The shared operations of the station life cycle: configuration taking effect, the start and the end of a
warm reset, cold reset, and the entry to HOLD, block by block (Chapter 9 and the reset rules of Chapters 1 to 8). -/

namespace Sys2Proof.Machine

/-! ## Values that several resets give -/

/-- A port record in DOWN with cause START (R21, R36). -/
def freshPort : PortRecord :=
  { state := .down, cause := .start, score := 1023, cleanEpochs := 0, upSince := none,
    revertTimer := none, revertReady := false }

/-- The record of a port that the port map marks absent (R21, R36). -/
def absentPort : PortRecord :=
  { state := .absent, cause := .start, score := 0, cleanEpochs := 0, upSince := none,
    revertTimer := none, revertReady := false }

/-- The station bus controller after either reset, with the lines as the other stations leave them (R39, R60). -/
def freshBus (wires : Wires) : Bus :=
  { activity := .idle, quiet := 0, sinceEvent := 0, wires := wires, hold := none,
    slot := none, queue := [], dueMark := false, lastHealthEnd := none, lastTaken := false, overrun := false,
    takeDriven := false }

/-- A switch record after either reset (R107). -/
def freshSwitch : SwitchRecord :=
  { verdict := .clear, opinionRead := .none, lastA := 0, lastK := 0, condition := false,
    holdTimer := .stopped }

/-- The verdict unit after either reset (R107). -/
def freshVerdicts : VerdictUnit :=
  { switches := Eight.all freshSwitch, activity := .idle, again := false }

/-- The peer view table after either reset (R93). -/
def freshView : PeerView := { entries := [], held := [] }

/-- The steering port state that the level of MRDY gives at the end of a reset (R145). -/
def portFromMrdy (mrdy : Bool) : SteerState := if mrdy then .ready else .offline

/-- The output pins with both strobes low and no drive to come; the class, target and mode lines are those of `p`
(R145). -/
def SteerPins.halt (p : SteerPins) : SteerPins := { p with setUp := 0, mreq := 0, mcan := 0, waiting := [] }

/-- The move queue and steering port controller after a reset with MRDY at a level; the class, target and mode lines are
those of `m` (R145; in a warm reset, that the port state follows at its start, notes/assumptions/38.md). -/
def Mux.afterReset (m : Mux) (mrdy : Bool) : Mux :=
  { m with
    queue := [], port := portFromMrdy mrdy, outstanding := none, answerLimit := .stopped,
    cancelLimit := .stopped, mrdy := mrdy, pins := m.pins.halt,
    alertReleased := false }

/-! ## Configuration (R2, R21, R125, R151) -/

/-- A lane when configuration takes effect (R2). The supervision field of an absent lane: notes/assumptions/22.md. -/
def Lane.configured (l : Lane) (m : PortMap) : Lane :=
  if m.absent then
    { present := false, supervised := m.supervised, level := none, errors := 0, peak := 0,
      helloTimer := .stopped, helloSeen := false }
  else
    { l with supervised := m.supervised, helloSeen := m.supervised && l.helloSeen }

/-- A port record when configuration takes effect (R21). -/
def PortRecord.configured (r : PortRecord) (m : PortMap) : PortRecord :=
  if m.absent then absentPort else r

/-- A class record when configuration takes effect (R125). -/
def configuredClass (prefs : List PortId) : ClassRecord :=
  { prefs := prefs, status := if prefs.isEmpty then .unused else .unplaced, current := none,
    target := none, barred := Four.all none }

/-- The blocks take their configured state: store, lanes, ports and classes (R2, R21, R125, R151). -/
def applySettings (c : Settings) (s : State) : State :=
  { s with
    ctl := { s.ctl with config := some c, configWait := .stopped }
    lanes := Four.build fun p => (s.lanes.get p).configured (c.portMap.get p)
    ports := Four.build fun p => (s.ports.get p).configured (c.portMap.get p)
    classes := Eight.build fun k => configuredClass (c.lists.get k) }

/-- Configuration takes effect: the station enters JOINING, the own opinions are derived for the first time, and every
present lane makes its lane status report (R17, R33, R151). -/
def configure (c : Settings) (s : State) : State :=
  laneStatusReports (rederive (enterJoining (applySettings c s)))

/-! ## Warm reset (R157) -/

/-- A lane at a warm reset: presence, supervision and the recorded level are kept (R18). -/
def Lane.warmReset (l : Lane) : Lane :=
  { l with errors := 0, peak := 0, helloTimer := .stopped, helloSeen := false }

/-- A port record at a warm reset (R36). -/
def PortRecord.warmReset (r : PortRecord) : PortRecord :=
  if r.state = .absent then absentPort else freshPort

/-- A class record at a warm reset (R126). -/
def ClassRecord.warmReset (r : ClassRecord) : ClassRecord :=
  let placed : ClassRecord := { r with status := .placed, target := none, barred := Four.all none }
  let unplaced : ClassRecord := { r.unplace with barred := Four.all none }
  match r.status with
  | .unused => { r with target := none, barred := Four.all none }
  | .unplaced => unplaced
  | .placed => placed
  | .moving => unplaced
  | .stranded => match r.current with
    | some _ => placed
    | none => unplaced

/-- The lines when a warm reset releases them: a notice being received is still on the wires; one being sent ends, and
both lines are high, but for what another station that sends it too, or holds its clock, still drives (R40, R45, R60;
notes/assumptions/30.md). -/
def Bus.released (b : Bus) : Wires :=
  match b.activity with
  | .idle => b.wires
  | .receiving _ => { b.wires with foreign := true }
  | .sending _ _ => b.wires

/-- The start of a warm reset: every block takes its warm-reset values; the id, the configuration, the defaulted flag,
station time and the epoch timer are kept (R157). The steering port takes the state of the level of MRDY recorded at
the start, and the end sets it by the level then; R145 gives the end alone (notes/assumptions/38.md). -/
def warmReset (s : State) : State :=
  let t : State :=
    { s with
      lanes := s.lanes.map Lane.warmReset
      ports := s.ports.map PortRecord.warmReset
      bus := freshBus s.bus.released
      beacon := .stopped
      view := freshView
      verdicts := freshVerdicts
      classes := s.classes.map ClassRecord.warmReset
      mux := s.mux.afterReset s.mux.mrdy
      ctl :=
        { s.ctl with
          state := .resetting, silenced := false, lateConfig := false, configWait := .stopped,
          joinTime := .stopped, resetQuiet := 0 } }
  { t with opinions := deriveOpinions t }

/-- The end of a warm reset. A configured station enters JOINING, and the opinion cause and the recompute request of the
warm reset are handled (R36, R82, R107; notes/assumptions/6.md); an unconfigured one restarts CONFIG_WAIT. Then every
present lane makes its lane status report (R17, R157). The bus is free 50 µs later at the earliest (R39). -/
def endWarmReset (s : State) : State :=
  let t : State :=
    { s with
      bus := { s.bus with sinceEvent := 0 }
      mux := { s.mux with port := portFromMrdy s.mux.mrdy } }
  if t.ctl.config.isSome then
    laneStatusReports (requestRecompute (healthCause (enterJoining t)))
  else
    laneStatusReports
      (t.setStation
        { t.ctl with state := .unconfigured, configWait := startTimer (clock t) configWaitMs })

/-! ## Cold reset (R158) -/

/-- A lane after cold reset, at the level its pin shows (R2, R18). -/
def coldLane (level : Bool) : Lane :=
  { present := true, supervised := true, level := some level, errors := 0, peak := 0,
    helloTimer := .stopped, helloSeen := false }

/-- A class record after cold reset (R125). -/
def coldClass : ClassRecord := configuredClass []

/-- The move queue and steering port controller after cold reset (R145). -/
def coldMux (mrdy : Bool) : Mux :=
  { queue := [], port := portFromMrdy mrdy, outstanding := none, answerLimit := .stopped,
    cancelLimit := .stopped, mrdy := mrdy
    pins :=
      { mcls := 0, mtgt := 0, mmode := false, setUp := 0, mreq := 0, mcan := 0, waiting := [] }
    alertReleased := false }

/-- The station controller after cold reset (R146, R155, R158). -/
def coldStation (pins : Pins) : Station :=
  { id := strapId pins.straps, state := .unconfigured, silenced := false, config := none,
    defaulted := strapsInvalid pins.straps, lateConfig := false, time := 0#32, micros := 0,
    configWait := startTimer { time := 0#32, micros := 0 } configWaitMs, joinTime := .stopped, rstnHigh := pins.rstn,
    resetQuiet := 0 }

/-- Every block at its cold-reset values, with the levels its pins show. -/
def coldState (pins : Pins) (pending : List Instr) : State :=
  { lanes := pins.sig.map coldLane
    epoch := startTimer { time := 0#32, micros := 0 } epochMs
    ports := Four.all freshPort
    opinions := Eight.all .none
    bus := freshBus
      { foreign := pins.busBusy, clockRuns := pins.busBusy, dataLow := pins.dataLow }
    beacon := .stopped
    view := freshView
    verdicts := freshVerdicts
    classes := Eight.all coldClass
    mux := coldMux pins.mrdy
    ctl := coldStation pins
    pending := pending }

/-- Cold reset. If RSTN is low at its end, a warm reset begins at once (R158). -/
def coldReset (pins : Pins) (s : State) : State :=
  let t := coldState pins s.pending
  if pins.rstn then t else warmReset t

/-! ## HOLD (R159) -/

/-- A lane at the entry to HOLD (R12, R19). -/
def Lane.hold (l : Lane) : Lane := { l with helloTimer := l.helloTimer.halt }

/-- A port record at the entry to HOLD (R28, R35). -/
def PortRecord.hold (r : PortRecord) : PortRecord :=
  { r with revertTimer := r.revertTimer.map Timer.halt }

/-- The station bus controller at the entry to HOLD (R61). -/
def Bus.enterHold (b : Bus) : Bus :=
  { b with
    activity := .idle, quiet := 0, sinceEvent := 0, hold := none, slot := none, queue := [],
    dueMark := false }

/-- A peer entry at the entry to HOLD (R93). -/
def PeerEntry.hold (e : PeerEntry) : PeerEntry :=
  { e with freshTimer := e.freshTimer.halt, expiryTimer := e.expiryTimer.halt }

/-- A switch record at the entry to HOLD: the hold timer is stopped, whether it was running or expired (R94, R103,
R108). -/
def SwitchRecord.hold (w : SwitchRecord) : SwitchRecord := { w with holdTimer := .stopped }

/-- A class record at the entry to HOLD (R122, R127). -/
def ClassRecord.hold (r : ClassRecord) : ClassRecord :=
  { r with barred := r.barred.map fun t => t.map Timer.halt }

/-- The entry to HOLD: station time and every timer stop, the lines are released, and every block keeps the rest of
what it had (R19, R35, R61, R82, R93, R108, R127, R145, R159). -/
def enterHold (s : State) : State :=
  { s with
    lanes := s.lanes.map Lane.hold
    epoch := s.epoch.halt
    ports := s.ports.map PortRecord.hold
    bus := s.bus.enterHold
    beacon := .stopped
    view := { s.view with entries := s.view.entries.map PeerEntry.hold }
    verdicts :=
      { switches := s.verdicts.switches.map SwitchRecord.hold, activity := .idle, again := false }
    classes := s.classes.map ClassRecord.hold
    mux :=
      { s.mux with
        answerLimit := s.mux.answerLimit.halt, cancelLimit := s.mux.cancelLimit.halt,
        pins := s.mux.pins.halt }
    ctl :=
      { s.ctl with
        state := .hold, configWait := s.ctl.configWait.halt, joinTime := s.ctl.joinTime.halt } }

end Sys2Proof.Machine
end

