-- ==== Sys2Proof/Machine/Notices.lean ====
section
/-! DEFINITION. The shared operations of following a notice on the station bus (Chapter 3): its start mark and header,
lost arbitration, the hold slot, the tests at the end of a notice, the hand-over at the end of the take slot, the stop
mark, and truncation. Each operation acts at its own stage of the notice and leaves every other stage as it is, so
that a span is the operations it covers, one after the other (parts of a notice: notes/assumptions/7.md; a notice met
while SENDING: notes/assumptions/8.md). -/

namespace Sys2Proof.Machine

/-! ## The lines, and a notice that the station does not follow (R37, R39, R60; notes/assumptions/30.md) -/

/-- The lines after a start mark: BCK high and BDT low (R37). -/
def markWires : Wires := { foreign := false, clockRuns := false, dataLow := true }

/-- Whether the last bit of a byte is a 0, which BDT low stands for (R37). -/
def lastBitLow (b : Byte) : Bool := b.toNat % 2 == 0

/-- Whether the clock runs on, or BCK is low, after a part of a notice that is not its end (R38). -/
def clockAfter (span : NoticeSpan) : Bool :=
  match span with
  | .whole => true
  | .startMark => false
  | .sender => true
  | .header => true
  | .body => true
  | .takeSlot => true
  | .stopMark => true
  | .clocks _ => false

/-- Whether BDT is low after a part of notice `n` that is not its end: after the start mark, after a byte whose last
bit is a 0, and in the stop sequence; the slots find it released (R37, R38). -/
def dataAfter (n : Notice) (span : NoticeSpan) : Bool :=
  match span with
  | .whole => false
  | .startMark => true
  | .sender => lastBitLow n.header.sender
  | .header => false
  | .body => n.check.any lastBitLow
  | .takeSlot => true
  | .stopMark => false
  | .clocks dataHigh => !dataHigh

/-- The lines after a part of a notice that the station does not follow. -/
def spanWires (n : Notice) (span : NoticeSpan) : Wires :=
  match span with
  | .whole => quietWires
  | .stopMark => quietWires
  | _ => { foreign := true, clockRuns := clockAfter span, dataLow := dataAfter n span }

/-- The lines as the others leave them, from `w`, after a part of notice `n` has met a station that sends `own`: as
far as the bytes that have passed are the same, another station sends with it or holds its clock (R40, R42, R44);
where they differ the other has lost, and has released the lines (R41). -/
def besideOwn (own n : Notice) (span : NoticeSpan) (w : Wires) : Wires :=
  let beside : Wires := { foreign := true, clockRuns := clockAfter span, dataLow := dataAfter n span }
  match span with
  | .startMark => beside
  | .sender => if n.bytes.take 2 = own.bytes.take 2 then beside else quietWires
  | .header => if n.header = own.header then beside else quietWires
  | .clocks _ => if w.foreign || n.bytes = own.bytes then beside else w
  | _ => if n.bytes = own.bytes then beside else quietWires

/-- A station that follows or sends a notice sees the lines move. -/
def seeWires (n : Notice) (span : NoticeSpan) (s : State) : State :=
  match s.bus.activity with
  | .idle => s
  | .receiving _ =>
    s.setBus
      { s.bus with
        wires := { s.bus.wires with clockRuns := clockAfter span, dataLow := dataAfter n span } }
  | .sending _ own => s.setBus { s.bus with wires := besideOwn own n span s.bus.wires }

/-- A part of a notice that the station does not follow passes and leaves the lines `w`: the bus-free timer begins
anew, and a stop mark, which alone leaves no notice on the wires, is an event of R39. -/
def passUnfollowed (w : Wires) (s : State) : State :=
  s.setBus
    { s.bus with
      quiet := 0
      sinceEvent := if w.foreign then s.bus.sinceEvent else 0
      wires := w }

/-- BCK has been high for 100 µs, with BDT as it was in `w`: no notice is on the wires any more, and where BDT is high
the bus-free timer has run for 100 µs (R39, R47). -/
def clockHigh (w : Wires) (s : State) : State :=
  s.setBus
    { s.bus with
      quiet := if w.dataLow then 0 else busFreeMicros
      wires := { quietWires with dataLow := w.dataLow } }

/-- Whether a part of a notice that meets an IDLE station belongs to a notice whose start mark it has not seen. It
does not join such a notice (R39); a start mark it follows (R43). -/
def missedStart (span : NoticeSpan) (s : State) : Bool :=
  s.bus.activity == .idle &&
    match span with
    | .startMark => false
    | .whole => s.bus.wires.foreign
    | .sender => s.bus.wires.foreign
    | .header => s.bus.wires.foreign
    | .body => true
    | .takeSlot => true
    | .stopMark => true
    | .clocks _ => true

/-! ## Losing the bus (R41, R47, R55, R59) -/

/-- An attempt ends without completing: the entry stays, the HEALTH-due mark is cleared if it was a HEALTH, and the
station is RECEIVING, with BDT low at the bit or the mark it lost on (R41, R47, R55). -/
def loseAttempt (stage : Stage) (s : State) : State :=
  s.setBus
    { s.bus with
      activity := .receiving stage
      wires := { markWires with clockRuns := true }
      dueMark := if sendingHealth s then false else s.bus.dueMark }

/-- Where a loss at byte `i` of the winner leaves the station in the winning notice: in its kind byte, in the rest of
its header, or past its hold slot (R41). -/
def stageAfterLoss (winner : Notice) (i : Nat) : Stage :=
  if i = 0 then .contested else if i < 4 then .opened else .headed winner.header

/-- Arbitration is lost to the notice `winner` at its byte `i`. A loss after the sender byte reveals a clash at once;
one in the kind byte leaves it to the sender byte (R41, R59). -/
def loseTo (winner : Notice) (i : Nat) (s : State) : State :=
  let t := loseAttempt (stageAfterLoss winner i) s
  if 2 ≤ i && decide (winner.header.sender.toNat = s.ctl.id) then silence t else t

/-! ## The start mark and the header (R43, R59) -/

/-- A start mark makes an IDLE station RECEIVING (R43). -/
def openStart (s : State) : State :=
  s.setBus { s.bus with activity := .receiving .opened, quiet := 0, wires := markWires }

/-- The station meets a notice: in IDLE it follows it from its start mark; in SENDING it arbitrates with it, and a
loss at one of the bytes from `first` up to `last` takes place (R41, R43). -/
def meetNotice (n : Notice) (first last : Nat) (s : State) : State :=
  match s.bus.activity with
  | .idle => openStart s
  | .receiving _ => s
  | .sending _ own =>
    match lossAt own.bytes n.bytes with
    | some i => if first ≤ i && i < last then loseTo n i s else s
    | none => s

/-- The sender byte has been sampled: a station that lost within the kind byte detects a clash there (R59). -/
def passSender (n : Notice) (s : State) : State :=
  match s.bus.activity with
  | .receiving .contested =>
    let t := s.setBus { s.bus with activity := .receiving .opened }
    if n.header.sender.toNat = s.ctl.id then silence t else t
  | _ => s

/-! ## The hold slot (R44) -/

/-- The four header bytes are in and the hold slot opens: the station holds if the notice is relevant, its receive
slot is occupied and HOLD_EN is on (R43, R44). -/
def openHoldSlot (h : Header) (s : State) : State :=
  match s.bus.activity with
  | .receiving .opened =>
    s.setBus
      { s.bus with
        activity := .receiving (.headed h)
        hold := if relevant s.ctl.id h && s.bus.slot.isSome && holdEnabled s then some 0 else none }
  | _ => s

/-- The header passes, up to the opening of the hold slot. -/
def passHeader (n : Notice) (s : State) : State := openHoldSlot n.header (passSender n s)

/-! ## The end of a notice (R48, R49) -/

/-- The outcomes of R48. -/
inductive NoticeOutcome where
  | discarded
  | clash
  | ignored
  | refused
  | late
  | overrun
  | taken
  deriving DecidableEq, Repr

/-- The kind-specific acceptance of test 5: `none` where the notice is accepted (R49). -/
def acceptance (s : State) (n : Notice) (k : NoticeKind) : Option NoticeOutcome :=
  match k with
  | .restart => none
  | .config =>
    if s.ctl.state = .unconfigured then
      if configRefused n.body then some .refused else none
    else some .late
  | .query =>
    if n.header.target.toNat = s.ctl.id && !hasDigest s then none else some .refused
  | .health =>
    if isStationId n.header.sender.toNat && decide (n.header.target.toNat = allStations) then none
    else some .refused
  | .digest => some .refused

/-- The seven tests of R48 in their order, with the state as it stands at the end of the notice. -/
def noticeOutcome (s : State) (n : Notice) : NoticeOutcome :=
  match n.header.kindInForm with
  | none => .discarded
  | some k =>
    if !n.complete then .discarded
    else if !n.checkRight then .discarded
    else if n.header.sender.toNat = s.ctl.id then .clash
    else if !relevant s.ctl.id n.header then .ignored
    else
      match acceptance s n k with
      | some o => o
      | none => if s.bus.slot.isSome then .overrun else .taken

/-- The station goes into the take slot of a notice, driving BDT low in it or not (R50). -/
def enterTakeSlot (h : Header) (taken : Bool) (s : State) : State :=
  s.setBus { s.bus with activity := .receiving (.taking h taken), takeDriven := taken }

/-- A notice is taken: it is stored in the receive slot, and the taking of a CONFIG stops CONFIG_WAIT (R51, R152). -/
def storeNotice (n : Notice) (s : State) : State :=
  let t := s.setBus { s.bus with slot := some n }
  if readKind n.header.kind = some .config then
    t.setStation { t.ctl with configWait := .stopped }
  else t

/-- What an outcome of R48 does to the state, before the take slot. -/
def settleNotice (n : Notice) (o : NoticeOutcome) (s : State) : State :=
  match o with
  | .discarded => s
  | .clash => silence s
  | .ignored => s
  | .refused => s
  | .late => s.setStation { s.ctl with lateConfig := true }
  | .overrun => s.setBus { s.bus with overrun := true }
  | .taken => storeNotice n s

/-- The station becomes IDLE at a stop mark; the bus-free time begins anew (R39). -/
def toIdle (s : State) : State :=
  s.setBus
    { s.bus with
      activity := .idle, quiet := 0, sinceEvent := 0, wires := quietWires, hold := none }

/-- The end of a notice. A notice of right form that is shorter than its length is truncated by its stop mark
(R47, R48). -/
def endNotice (n : Notice) (s : State) : State :=
  match s.bus.activity with
  | .receiving (.headed h) =>
    if h = n.header && s.bus.hold.isNone then
      if n.header.kindInForm.isSome && !n.complete then toIdle s
      else
        let o := noticeOutcome s n
        enterTakeSlot h (o == .taken) (settleNotice n o s)
    else s
  | _ => s

/-! ## The end of the take slot (R51, R160) -/

/-- The DIGEST snapshot: the body is copied into the transmit queue, then the peaks, the overrun flag and the
late-configuration flag are cleared (R8, R160, R161). -/
def takeSnapshot (target : Byte) (s : State) : State :=
  { s with
    lanes := s.lanes.map fun l => { l with peak := 0 }
    bus :=
      { s.bus with
        queue := s.bus.queue ++ [.digest target (digestBody s)]
        overrun := false }
    ctl := { s.ctl with lateConfig := false } }

/-- A CONFIG, QUERY or RESTART is handed to the station controller, and the slot becomes empty; a HEALTH stays (R51). A
CONFIG takes effect in UNCONFIGURED alone (R151; notes/assumptions/25.md). -/
def handOver (n : Notice) (s : State) : State :=
  let t := s.setBus { s.bus with slot := none }
  match readKind n.header.kind with
  | some .restart => warmReset t
  | some .config =>
    if t.ctl.state = .unconfigured then configure (readConfig n.body) t else t
  | some .query => takeSnapshot n.header.sender t
  | _ => s

/-- The take slot passes: the station awaits the stop mark, and a notice it took is handed over (R50, R51). -/
def closeNotice (h : Header) (s : State) : State :=
  match s.bus.activity with
  | .receiving (.taking h' taken) =>
    if h' = h then
      let t := s.setBus { s.bus with activity := .receiving (.closing h) }
      match taken, t.bus.slot with
      | true, some n => handOver n t
      | _, _ => t
    else s
  | _ => s

/-- The stop mark passes. What a sender adds before it is ignored (R38, R43). -/
def passStop (h : Header) (s : State) : State :=
  match s.bus.activity with
  | .idle => passUnfollowed quietWires s
  | .receiving (.closing h') => if h' = h then toIdle s else s
  | _ => s

/-! ## Following a notice -/

/-- A part of notice `n` passes while the station follows it or arbitrates with it. -/
def followSpan (n : Notice) (span : NoticeSpan) (s : State) : State :=
  match span with
  | .whole =>
    passStop n.header (closeNotice n.header (endNotice n (passHeader n
      (meetNotice n 0 n.bytes.length s))))
  | .startMark => meetNotice n 0 0 s
  | .sender => passSender n (meetNotice n 0 2 s)
  | .header => passHeader n (meetNotice n 0 4 s)
  | .body => endNotice n (meetNotice n 4 n.bytes.length s)
  | .takeSlot => closeNotice n.header s
  | .stopMark => passStop n.header s
  | .clocks _ => s

/-- The part `span` of notice `n` passes on the bus. In HOLD the bus is not seen (R61); in a warm reset, and where its
start was missed, the notice is not followed (R39, R60, R157). -/
def followNotice (n : Notice) (span : NoticeSpan) (s : State) : State :=
  if awake s then
    if missedStart span s then passUnfollowed (spanWires n span) s
    else seeWires n span (followSpan n span s)
  else if s.ctl.state = .resetting then passUnfollowed (spanWires n span) s
  else s

/-! ## Truncation (R47) -/

/-- A notice that was taken and whose take slot has not ended leaves the slot again (R47; notes/assumptions/12.md).
After the take slot the outcome stands (R43). -/
def dropTaken (s : State) : State :=
  if drivesTakeSlot s then s.setBus { s.bus with slot := none } else s

/-- The notice being followed is truncated: it is discarded, any hold on it is released and the station becomes IDLE,
as at a stop mark (R47). -/
def truncate (s : State) : State := toIdle (dropTaken s)

/-- A start mark inside a notice that the station follows: the old notice is truncated and the station stays RECEIVING
for a new one (R47). -/
def reopen (s : State) : State :=
  let t := dropTaken s
  t.setBus
    { t.bus with activity := .receiving .opened, quiet := 0, wires := markWires, hold := none }

end Sys2Proof.Machine
end

