-- ==== Sys2Proof/Machine/BusEvents.lean ====
section
/-! DEFINITION. The meanings of the commands of the station bus: sending (TRANSMISSION_ATTEMPT,
TRANSMISSION_COMPLETE), the six notice rows, TRUNCATED_NOTICE, MARK_INSIDE_NOTICE and HOLD_LIMIT_EXPIRY (Chapters 3, 4
and 10). -/

namespace Sys2Proof.Machine

/-! ## TRANSMISSION_ATTEMPT (R39, R54) -/

/-- The start mark: the notice for the entry is built and the station is SENDING it, alone on the lines until a
command says that another station sends with it or holds its clock (R39, R54; notes/assumptions/30.md). -/
def startSending (e : TxEntry) (s : State) : State :=
  s.setBus
    { s.bus with
      activity := .sending e (buildEntry s e)
      quiet := 0
      wires := quietWires }

/-- The attempt meets the notice of a station that began in the same instant (R40 to R42). A loss within the kind byte
leaves the clash test to the sender byte (R59); a station whose notice is identical goes on beside it (R42). -/
def meetRival (own : Notice) (rival : Option Notice) (s : State) : State :=
  match rival with
  | none => s
  | some r =>
    match lossAt own.bytes r.bytes with
    | none => s.setBus { s.bus with wires := besideOwn own r .whole s.bus.wires }
    | some i => loseTo r i s

def execTransmissionAttempt (rival : Option Notice) (s : State) : Result :=
  .next
    (if awake s && busFree s then
      match nextEntry s with
      | some e => meetRival (buildEntry s e) rival (startSending e s)
      | none => s
    else s)

/-! ## TRANSMISSION_COMPLETE (R55, R56) -/

/-- The queue without the entry of one kind. -/
def leaveQueue (e : TxEntry) (q : List TxEntry) : List TxEntry :=
  q.filter fun x => x.isHealth != e.isHealth

/-- A HEALTH completes: the records, a new entry if the HEALTH-due mark is set, and the beacon timer (R55, R56, R77). -/
def completeHealth (taken : Bool) (s : State) : State :=
  startBeacon
    (s.setBus
      { s.bus with
        activity := .idle
        quiet := 0
        sinceEvent := 0
        wires := quietWires
        queue := leaveQueue .health s.bus.queue ++ (if s.bus.dueMark then [.health] else [])
        dueMark := false
        lastHealthEnd := some (clock s)
        lastTaken := taken })

/-- A DIGEST completes; the level of its take slot is not recorded (R56, R162). -/
def completeDigest (e : TxEntry) (s : State) : State :=
  s.setBus
    { s.bus with
      activity := .idle, quiet := 0, sinceEvent := 0, wires := quietWires,
      queue := leaveQueue e s.bus.queue }

def execTransmissionComplete (taken : Bool) (s : State) : Result :=
  .next
    (if awake s then
      match s.bus.activity with
      | .sending .health _ => completeHealth taken s
      | .sending (.digest t b) _ => completeDigest (.digest t b) s
      | _ => s
    else s)

/-! ## The notice rows (R48, R49, R58, R64, R160) -/

def execRestartNotice (n : Notice) (span : NoticeSpan) (s : State) : Result :=
  .next (followNotice n span s)

def execConfigNotice (n : Notice) (span : NoticeSpan) (s : State) : Result :=
  .next (followNotice n span s)

def execQueryNotice (n : Notice) (span : NoticeSpan) (s : State) : Result :=
  .next (followNotice n span s)

def execHealthNotice (n : Notice) (span : NoticeSpan) (s : State) : Result :=
  .next (followNotice n span s)

def execDigestNotice (n : Notice) (span : NoticeSpan) (s : State) : Result :=
  .next (followNotice n span s)

def execDiscardedNotice (n : Notice) (span : NoticeSpan) (s : State) : Result :=
  .next (followNotice n span s)

/-! ## TRUNCATED_NOTICE and MARK_INSIDE_NOTICE (R47) -/

/-- BCK has stayed high for 100 µs: the station that follows a notice truncates it (R47). An IDLE station, and one in
a warm reset, sees the lines so (R39; notes/assumptions/30.md); a SENDING one goes on (R47; notes/assumptions/34.md).
-/
def execTruncatedNotice (s : State) : Result :=
  .next
    (if awake s then
      match s.bus.activity with
      | .idle => clockHigh s.bus.wires s
      | .receiving _ => clockHigh s.bus.wires (truncate s)
      | .sending _ _ => s
    else if s.ctl.state = .resetting then clockHigh s.bus.wires s
    else s)

/-- A start mark: inside a notice that the station follows or sends, it opens a new one (R47); it makes an IDLE station
RECEIVING (R43). A clash with the new notice of a SENDING station is left to R58 (notes/assumptions/35.md). -/
def startMarkSeen (s : State) : State :=
  match s.bus.activity with
  | .idle => openStart s
  | .receiving _ => reopen s
  | .sending _ _ => loseAttempt .opened s

/-- A stop mark: it truncates a notice that the station follows (R47), and restarts the bus-free time of an IDLE station
(R39); a SENDING station goes on (notes/assumptions/34.md). -/
def stopMarkSeen (s : State) : State :=
  match s.bus.activity with
  | .idle => passUnfollowed quietWires s
  | .receiving _ => truncate s
  | .sending _ _ => s

/-- A start or a stop mark on the bus; in a warm reset it opens or ends a notice that is not followed (R39, R60). -/
def markInside (mark : Mark) (s : State) : State :=
  if awake s then
    match mark with
    | .start => startMarkSeen s
    | .stop => stopMarkSeen s
  else if s.ctl.state = .resetting then
    match mark with
    | .start => passUnfollowed { markWires with foreign := true } s
    | .stop => passUnfollowed quietWires s
  else s

def execMarkInsideNotice (mark : Mark) (s : State) : Result := .next (markInside mark s)

/-! ## HOLD_LIMIT_EXPIRY (R44) -/

def execHoldLimitExpiry (s : State) : Result :=
  .next (if awake s && holdOver s then s.setBus { s.bus with hold := none } else s)

end Sys2Proof.Machine
end

