-- ==== Sys2Proof/Machine/LineEvents.lean ====
section
/-! DEFINITION. The meanings of the commands of the lanes and of the port records: SERR_PULSE, HELLO_PULSE, SIGNAL_LOSS,
SIGNAL_PRESENT, EPOCH_END, HELLO_SILENCE and REVERT_TIMER_EXPIRY (Chapters 1 and 2). -/

namespace Sys2Proof.Machine

/-! ## SERR_PULSE (R5) -/

/-- A lane that takes a SERR pulse; the counter saturates at 65535. -/
def Lane.countError (l : Lane) : Lane := { l with errors := min 65535 (l.errors + 1) }

def execSerrPulse (p : PortId) (s : State) : Result :=
  .next (if awake s && (s.lanes.get p).present then s.setLane p (s.lanes.get p).countError else s)

/-! ## HELLO_PULSE (R11, R13) -/

/-- A HELLO pulse on a DOWN port: the flag is set, and hello seen is reported if it was clear (R13, R22). -/
def helloOnDown (p : PortId) (s : State) : State :=
  if (s.lanes.get p).helloSeen then s
  else probationCheck p (s.setLane p { s.lanes.get p with helloSeen := true })

/-- A HELLO pulse taken by a present lane with supervision on (R11). -/
def takeHello (p : PortId) (s : State) : State :=
  match (s.ports.get p).state with
  | .absent => s
  | .down => helloOnDown p s
  | .probation => s.setLane p { s.lanes.get p with helloTimer := helloTimerFrom s }
  | .up => s.setLane p { s.lanes.get p with helloTimer := helloTimerFrom s }
  | .suspect => s.setLane p { s.lanes.get p with helloTimer := helloTimerFrom s }

def execHelloPulse (p : PortId) (s : State) : Result :=
  .next (if awake s && (s.lanes.get p).present && (s.lanes.get p).supervised then takeHello p s
    else s)

/-! ## SIGNAL_LOSS (R9) and SIGNAL_PRESENT (R10) -/

/-- Whether a lane records a change of SIG: a present lane, in every station state but HOLD (R1, R2, R157). -/
def recordsSignal (s : State) (p : PortId) : Bool :=
  s.ctl.state != .hold && (s.lanes.get p).present

/-- The recorded signal level of a lane is written (R1). -/
def recordLevel (p : PortId) (level : Bool) (s : State) : State :=
  s.setLane p { s.lanes.get p with level := some level }

/-- A signal loss or hello silence report reaches the port record (R26, R27). -/
def reportLoss (p : PortId) (cause : Cause) (s : State) : State :=
  match (s.ports.get p).state with
  | .absent => s
  | .down => s
  | .probation => enterDown p cause s
  | .up => enterDown p cause s
  | .suspect => enterDown p cause s

/-- The level is recorded and the loss reported, also where the recorded level was absent already, which cannot arise
(R9; notes/assumptions/36.md). -/
def execSignalLoss (p : PortId) (s : State) : Result :=
  .next
    (if recordsSignal s p then
      let t := recordLevel p false s
      if awake s then reportLoss p .signal t else t
    else s)

/-- The level is recorded and the PROBATION check made, also where the recorded level was present already, which cannot
arise (R10, R22; notes/assumptions/36.md). -/
def execSignalPresent (p : PortId) (s : State) : Result :=
  .next
    (if recordsSignal s p then
      let t := recordLevel p true s
      if awake s then probationCheck p t else t
    else s)

/-! ## EPOCH_END (R3, R4, R7) -/

/-- A lane at an epoch end: the peak takes the count if it is greater, and the counter becomes 0 (R4, R7). -/
def Lane.closeEpoch (l : Lane) : Lane := { l with errors := 0, peak := max l.peak l.errors }

/-- The epoch result of a lane is delivered, if it was present at the epoch end (R4). -/
def deliverResult (before : Four Lane) (s : State) (p : PortId) : State :=
  if (before.get p).present then deliverEpoch p (before.get p).errors s else s

/-- The epoch end of every present lane at once, then the deliveries in lane order (R4; notes/assumptions/11.md). -/
def endEpoch (s : State) : State :=
  allPorts.foldl (deliverResult s.lanes)
    { s with lanes := s.lanes.map fun l => if l.present then l.closeEpoch else l }

/-- The epoch timer, where it has run out, runs on for the next epoch without drift, and the epoch ends (R3). -/
def nextEpoch (s : State) : State :=
  match s.epoch with
  | .running due =>
    if ranOut (clock s) due then endEpoch { s with epoch := startTimer due epochMs } else s
  | _ => s

/-- In HOLD no epoch ends (R19); in a warm reset epochs go on ending (R157). -/
def execEpochEnd (s : State) : Result :=
  .next (if s.ctl.state = .hold then s else nextEpoch s)

/-! ## HELLO_SILENCE (R14, R15) -/

def execHelloSilence (p : PortId) (s : State) : Result :=
  .next
    (if awake s && (s.lanes.get p).helloTimer.isDue (clock s) then
      reportLoss p .silent (s.setLane p { s.lanes.get p with helloTimer := .stopped })
    else s)

/-! ## REVERT_TIMER_EXPIRY (R29) -/

/-- A port record at the expiry of its revert timer (R29). -/
def PortRecord.holdUp (r : PortRecord) : PortRecord :=
  { r with revertTimer := some .expired, revertReady := true }

/-- Whether the revert timer of a port has run out. -/
def PortRecord.revertDue (r : PortRecord) (time : Instant) : Bool :=
  match r.revertTimer with
  | some t => t.isDue time
  | none => false

def execRevertTimerExpiry (p : PortId) (s : State) : Result :=
  .next
    (if awake s && (s.ports.get p).revertDue (clock s) then
      issueTest (evaluateAll (s.setPort p (s.ports.get p).holdUp))
    else s)

end Sys2Proof.Machine
end

