-- ==== Sys2Proof/Machine/StationEvents.lean ====
section
/-! DEFINITION. The meanings of the commands of the station controller: CONFIG_WAIT_EXPIRY, JOIN_TIME_EXPIRY, RSTN_FALL,
RSTN_RISE, WARM_RESET_END, SUPPLY_LOW and SUPPLY_GOOD (Chapter 9). -/

namespace Sys2Proof.Machine

/-- CONFIG_WAIT_EXPIRY (R151, R152): the defaults take effect and the defaulted flag is set. -/
def execConfigWaitExpiry (s : State) : Result :=
  .next
    (if s.ctl.state = .unconfigured && s.ctl.configWait.isDue (clock s) then
      configure defaultSettings (s.setStation { s.ctl with defaulted := true })
    else s)

/-- JOIN_TIME_EXPIRY (R153). -/
def execJoinTimeExpiry (s : State) : Result :=
  .next
    (if s.ctl.state = .joining && s.ctl.joinTime.isDue (clock s) then enterActive s else s)

/-- RSTN_FALL (R157): a warm reset begins, or the one in progress is extended. -/
def execRstnFall (s : State) : Result :=
  .next
    (if awake s then warmReset (s.setStation { s.ctl with rstnHigh := false })
    else if s.ctl.state = .resetting then
      s.setStation { s.ctl with rstnHigh := false, resetQuiet := 0 }
    else s)

/-- RSTN_RISE (R157): the 100 µs of a warm reset in progress are counted from here. -/
def execRstnRise (s : State) : Result :=
  .next
    (if s.ctl.state = .hold then s
    else if s.ctl.state = .resetting then
      s.setStation { s.ctl with rstnHigh := true, resetQuiet := 0 }
    else s.setStation { s.ctl with rstnHigh := true })

/-- WARM_RESET_END (R144, R157): RSTN has been high for 100 µs. -/
def execWarmResetEnd (s : State) : Result :=
  .next (if s.ctl.state = .resetting && warmResetOver s then endWarmReset s else s)

/-- SUPPLY_LOW (R159): taken in every state; in HOLD it changes nothing. -/
def execSupplyLow (s : State) : Result :=
  .next (if s.ctl.state = .hold then s else enterHold s)

/-- SUPPLY_GOOD (R158, R159): taken in HOLD, which it ends in a cold reset. -/
def execSupplyGood (pins : Pins) (s : State) : Result :=
  .next (if s.ctl.state = .hold then coldReset pins s else s)

end Sys2Proof.Machine
end

