-- ==== Sys2Proof/Machine/SteerEvents.lean ====
section
/-! DEFINITION. The meanings of the commands of class steering and of the steering port: BACKOFF_EXPIRY, ISSUE, DONE,
REFUSED, CANCELLED, the two limit expiries, MRDY_FALL and MRDY_RISE (Chapters 7 and 8). -/

namespace Sys2Proof.Machine

/-! ## BACKOFF_EXPIRY (R122) -/

/-- Whether the backoff timer of a port in a barred set has run out. -/
def ClassRecord.backoffDue (r : ClassRecord) (p : PortId) (time : Instant) : Bool :=
  match r.barred.get p with
  | some t => t.isDue time
  | none => false

/-- A port leaves a barred set (R122). -/
def ClassRecord.unbar (r : ClassRecord) (p : PortId) : ClassRecord :=
  { r with barred := r.barred.set p none }

def execBackoffExpiry (c : ClassId) (p : PortId) (s : State) : Result :=
  .next
    (if awake s && (s.classes.get c).backoffDue p (clock s) then
      issueTest (evaluate c (s.setClass c ((s.classes.get c).unbar p)))
    else s)

/-! ## ISSUE (R135, R136) -/

def execIssue (s : State) : Result := .next (issueTest s)

/-! ## Answers (R137, R139) -/

/-- The outstanding move that an answer DONE or REFUSED ends: in AWAIT and in CANCELLING (R137, R139, R141). -/
def answerable (s : State) : Option Move :=
  match s.mux.port with
  | .await => s.mux.outstanding
  | .cancelling => s.mux.outstanding
  | _ => none

def execAnswerDone (s : State) : Result :=
  .next
    (if awake s then
      match answerable s with
      | some m => finishMove m.cls ((s.classes.get m.cls).arrive m.target) s
      | none => s
    else s)

def execAnswerRefused (s : State) : Result :=
  .next
    (if awake s then
      match answerable s with
      | some m =>
        finishMove m.cls ((s.classes.get m.cls).remain.bar m.target (backoffTimer s)) s
      | none => s
    else s)

def execAnswerCancelled (s : State) : Result :=
  .next
    (if awake s && s.mux.port == .cancelling then
      match s.mux.outstanding with
      | some m => finishMove m.cls (s.classes.get m.cls).remain s
      | none => s
    else s)

/-! ## ANSWER_LIMIT_EXPIRY and CANCEL_LIMIT_EXPIRY (R138, R141) -/

/-- The port becomes STALLED: the outstanding move record is kept and no timer runs (R141). -/
def stall (s : State) : State :=
  s.setMux
    { s.mux with port := .stalled, answerLimit := .stopped, cancelLimit := .stopped }

/-- The expiry of the answer limit: a FORCED move stalls the port, a DRAINED one is cancelled (R138, R141). -/
def answerLimitPassed (m : Move) (s : State) : State :=
  match m.mode with
  | .forced => stall s
  | .drained => sendCancel s

def execAnswerLimitExpiry (s : State) : Result :=
  .next
    (if awake s && s.mux.answerLimit.isDue (clock s) && s.mux.port == .await then
      match s.mux.outstanding with
      | some m => answerLimitPassed m s
      | none => s
    else s)

def execCancelLimitExpiry (s : State) : Result :=
  .next
    (if awake s && s.mux.cancelLimit.isDue (clock s) && s.mux.port == .cancelling then stall s else s)

/-! ## MRDY_FALL (R142) and MRDY_RISE (R143, R164) -/

/-- The recorded level of MRDY is written (R133). -/
def recordMrdy (level : Bool) (s : State) : State := s.setMux { s.mux with mrdy := level }

/-- An outstanding move is abandoned: its class becomes UNPLACED and is evaluated (R142). -/
def abandonMove (s : State) : State :=
  match s.mux.outstanding with
  | some m =>
    evaluate m.cls
      ((s.setClass m.cls (s.classes.get m.cls).unplace).setMux (s.mux.endMove .offline))
  | none => s.setMux (s.mux.endMove .offline)

/-- MRDY falls: the port enters OFFLINE, and its leaving STALLED is handed on (R142). -/
def goOffline (s : State) : State :=
  let t := abandonMove (recordMrdy false s)
  if s.mux.port = .stalled then evaluateAll t else t

def execMrdyFall (s : State) : Result :=
  .next
    (if awake s then goOffline s
    else if s.ctl.state = .resetting then recordMrdy false s
    else s)

/-- Items 1 to 3 of R143: every in-use class becomes UNPLACED, the queue is emptied and the port becomes READY. -/
def replaceAll (s : State) : State :=
  { s with
    classes := s.classes.map fun r => if r.inUse then r.unplace else r
    mux := { s.mux.endMove .ready with queue := [] } }

/-- MRDY rises in OFFLINE: the three items, then the evaluations with the issue test. Where the items release ALRTN and
the evaluations drive it again, that is recorded (R143, R164; notes/assumptions/31.md). -/
def comeOnline (s : State) : State :=
  let released := replaceAll (recordMrdy true s)
  let t := issueTest (evaluateAll released)
  t.setMux { t.mux with alertReleased := alertLow s && !alertLow released && alertLow t }

def execMrdyRise (s : State) : Result :=
  .next
    (if awake s then
      if s.mux.port = .offline then comeOnline s
      else recordMrdy true s
    else if s.ctl.state = .resetting then recordMrdy true s
    else s)

end Sys2Proof.Machine
end

