-- ==== Sys2Proof/Machine/PeerEvents.lean ====
section
/-! DEFINITION. The meanings of the commands of health reporting and the peer view table: ABSORPTION, BEACON_EXPIRY,
FRESHNESS_EXPIRY and EXPIRY_TIMER_EXPIRY (Chapter 5). An expiry takes place only once its timer has run out
(notes/assumptions/3.md). -/

namespace Sys2Proof.Machine

/-- Whether a recompute is in progress. -/
def isRecomputing (s : State) : Bool :=
  match s.verdicts.activity with
  | .idle => false
  | .recomputing _ => true

/-! ## ABSORPTION (R85, R86) -/

def execAbsorption (s : State) : Result :=
  .next
    (if awake s && !isRecomputing s then
      match healthWaiting s with
      | some n => requestRecompute (absorb n s)
      | none => s
    else s)

/-! ## BEACON_EXPIRY (R77, R80) -/

def execBeaconExpiry (s : State) : Result :=
  .next
    (if awake s && s.beacon.isDue (clock s) then healthCause { s with beacon := .stopped } else s)

/-! ## FRESHNESS_EXPIRY (R87, R90, R91) -/

def execFreshnessExpiry (id : Nat) (s : State) : Result :=
  .next
    (if awake s && freshDue s id then
      if isRecomputing s then holdExpiry (.freshness id) s else requestRecompute (peerStale id s)
    else s)

/-! ## EXPIRY_TIMER_EXPIRY (R88, R90, R91) -/

/-- The removal of an entry, with a recompute request if it was FRESH (R88). -/
def removePeer (id : Nat) (s : State) : State :=
  if removalRequests s id then requestRecompute (peerRemoved id s) else peerRemoved id s

def execExpiryTimerExpiry (id : Nat) (s : State) : Result :=
  .next
    (if awake s && expiryDue s id then
      if isRecomputing s then holdExpiry (.removal id) s else removePeer id s
    else s)

end Sys2Proof.Machine
end

