-- ==== Sys2Proof/Machine/VerdictEvents.lean ====
section
/-! DEFINITION. The meanings of the commands of the verdict unit: RECOMPUTE_COMPLETION and CONDEMN_HOLD_EXPIRY
(Chapter 6). -/

namespace Sys2Proof.Machine

/-! ## RECOMPUTE_COMPLETION (R98, R100 to R102) -/

/-- A switch record whose condemn condition holds at the completion (R101). -/
def SwitchRecord.condemn (w : SwitchRecord) : SwitchRecord :=
  { w with verdict := .condemned, condition := true, holdTimer := .stopped }

/-- A switch record lowered, or kept, below CONDEMNED (R101). -/
def SwitchRecord.lower (w : SwitchRecord) : SwitchRecord :=
  { w with verdict := lesserVerdict w, condition := false, holdTimer := .stopped }

/-- A CONDEMNED switch record whose condition does not hold at the completion (R102). -/
def SwitchRecord.unwind (w : SwitchRecord) (time : Instant) (condemnHold : Nat) : SwitchRecord :=
  match w.holdTimer with
  | .stopped =>
    if condemnHold = 0 then w.lower
    else { w with condition := false, holdTimer := startTimer time (condemnHold * 100) }
  | .running _ => { w with condition := false }
  | .expired => w.lower

/-- The record of a switch after a completion (R100 to R102). CONDEMN_HOLD is the one in effect at the completion
(notes/assumptions/33.md). -/
def completeSwitch (s : State) (r : Recompute) (sw : SwitchId) : SwitchRecord :=
  let w := s.verdicts.switches.get sw
  if condemnCondition r (r.mapped.get sw) w then w.condemn
  else if w.verdict = .condemned then w.unwind (clock s) (settings s).condemnHold
  else w.lower

/-- All eight records after a completion. -/
def completeSwitches (s : State) (r : Recompute) : Eight SwitchRecord :=
  Eight.build (completeSwitch s r)

/-- Whether a completion changed one or more verdicts (R98). -/
def verdictsChanged (before after : Eight SwitchRecord) : Bool :=
  allSwitches.any fun sw => (before.get sw).verdict != (after.get sw).verdict

/-- Items 1 to 3 of R98: the records, one evaluation trigger for every in-use class if a verdict changed, and IDLE. -/
def writeVerdicts (r : Recompute) (s : State) : State :=
  let after := completeSwitches s r
  let t : State := { s with verdicts := { s.verdicts with switches := after, activity := .idle } }
  if verdictsChanged s.verdicts.switches after then issueTest (evaluateAll t) else t

/-- The absorption that waited for the completion; the answer says whose HEALTH it was (R85, R90). -/
def absorbWaiting (s : State) : State × Option Nat :=
  match healthWaiting s with
  | some n => (absorb n s, some n.header.sender.toNat)
  | none => (s, none)

/-- The held expiries that still take place: not those of the entry just absorbed, whose timers are restarted (R91). -/
def heldAfter (absorbed : Option Nat) (hs : List HeldExpiry) : List HeldExpiry :=
  hs.filter fun h => absorbed != some h.id

/-- The changes that the peer view table held back take effect; the answer says whether any makes a request
(R90, R91; notes/assumptions/14.md). -/
def releaseHeld (s : State) : State × Bool :=
  let a := absorbWaiting s
  let b := applyAllHeld (heldAfter a.2 s.view.held) { a.1 with view := { a.1.view with held := [] } }
  (b.1, a.2.isSome || b.2)

/-- The completion of a recompute: the verdicts, the held changes of the peer view table, and one further recompute if
the again flag is set or a held change makes a request (R98). -/
def completeRecompute (r : Recompute) (s : State) : State :=
  let h := releaseHeld (writeVerdicts r s)
  if s.verdicts.again || h.2 then startRecompute h.1 else h.1

def execRecomputeCompletion (s : State) : Result :=
  .next
    (if awake s then
      match s.verdicts.activity with
      | .recomputing r => completeRecompute r s
      | .idle => s
    else s)

/-! ## CONDEMN_HOLD_EXPIRY (R103) -/

def execCondemnHoldExpiry (sw : SwitchId) (s : State) : Result :=
  .next
    (if awake s && (s.verdicts.switches.get sw).holdTimer.isDue (clock s) then
      requestRecompute
        (s.setSwitch sw { s.verdicts.switches.get sw with holdTimer := .expired })
    else s)

end Sys2Proof.Machine
end

