-- ==== Sys2Proof/Machine/Clock.lean ====
section
/-! DEFINITION. What the block does when no command waits: the machine's own event that is due is queued, and if none is
due one microsecond passes (R147; notes/assumptions/2.md, notes/assumptions/4.md). -/

namespace Sys2Proof.Machine

/-! ## Events that are due -/

/-- A command, where a condition for it holds. -/
def dueIf (b : Bool) (c : Instr) : List Instr := if b then [c] else []

/-- The due events of a warm reset in progress: its end, and the epoch end, which runs on (R157). -/
def dueInReset (s : State) : List Instr :=
  dueIf (warmResetOver s) .warmResetEnd ++
  dueIf (s.epoch.isDue (clock s)) .epochEnd

/-- The due events of one port and its lane. -/
def duePort (s : State) (p : PortId) : List Instr :=
  dueIf ((s.lanes.get p).helloTimer.isDue (clock s)) (.helloSilence p) ++
  dueIf ((s.ports.get p).revertDue (clock s)) (.revertTimerExpiry p)

/-- The due events of one peer entry; an expiry that is held is not due again (R90). -/
def duePeer (s : State) (e : PeerEntry) : List Instr :=
  dueIf (e.freshTimer.isDue (clock s) && !s.view.held.contains (.freshness e.id))
    (.freshnessExpiry e.id) ++
  dueIf (e.expiryTimer.isDue (clock s) && !s.view.held.contains (.removal e.id))
    (.expiryTimerExpiry e.id)

/-- The due event of one switch. -/
def dueSwitch (s : State) (sw : SwitchId) : List Instr :=
  dueIf ((s.verdicts.switches.get sw).holdTimer.isDue (clock s)) (.condemnHoldExpiry sw)

/-- The due events of the barred set of one class. -/
def dueClass (s : State) (c : ClassId) : List Instr :=
  allPorts.flatMap fun p =>
    dueIf ((s.classes.get c).backoffDue p (clock s)) (.backoffExpiry c p)

/-- Whether the recompute in progress has reached its longest time (R96). -/
def recomputeOver (s : State) : Bool :=
  match s.verdicts.activity with
  | .recomputing r => decide (recomputeLimitMicros ≤ r.elapsed)
  | .idle => false

/-- The machine's own events that are due in a running station, in a fixed order (notes/assumptions/4.md). -/
def dueAwake (s : State) : List Instr :=
  dueIf (s.epoch.isDue (clock s)) .epochEnd ++
  allPorts.flatMap (duePort s) ++
  dueIf (s.ctl.configWait.isDue (clock s)) .configWaitExpiry ++
  dueIf (s.ctl.joinTime.isDue (clock s)) .joinTimeExpiry ++
  dueIf (holdOver s) .holdLimitExpiry ++
  s.view.entries.flatMap (duePeer s) ++
  allSwitches.flatMap (dueSwitch s) ++
  allClasses.flatMap (dueClass s) ++
  dueIf (s.mux.answerLimit.isDue (clock s)) .answerLimitExpiry ++
  dueIf (s.mux.cancelLimit.isDue (clock s)) .cancelLimitExpiry ++
  dueIf (recomputeOver s) .recomputeCompletion ++
  dueIf (!isRecomputing s && (healthWaiting s).isSome) .absorption ++
  dueIf (issuable s).isSome .issue ++
  dueIf (s.beacon.isDue (clock s)) .beaconExpiry ++
  dueIf (busFree s && (nextEntry s).isSome) (.transmissionAttempt none)

/-- The machine's own events that are due; in HOLD there is none (R159). -/
def dueCommands (s : State) : List Instr :=
  match s.ctl.state with
  | .hold => []
  | .resetting => dueInReset s
  | _ => dueAwake s

/-! ## One microsecond -/

/-- Station time after one more microsecond: the count of milliseconds advances with every thousandth (R147). -/
def Station.tick (c : Station) : Station :=
  let t : Station :=
    if c.micros + 1 < microsPerMs then { c with micros := c.micros + 1 }
    else { c with micros := 0, time := c.time + 1#32 }
  { t with
    resetQuiet :=
      if c.state = .resetting && c.rstnHigh then min resetQuietMicros (c.resetQuiet + 1)
      else c.resetQuiet }

/-- The bus-free timer and the hold state after one more microsecond (R39, R44). The bus-free timer runs while the
station is IDLE and both lines are high; the time since its latest event runs always. -/
def Bus.tick (b : Bus) : Bus :=
  { b with
    quiet :=
      if b.activity == .idle && b.wires.high then min busFreeMicros (b.quiet + 1) else b.quiet
    sinceEvent := min busFreeMicros (b.sinceEvent + 1)
    hold := b.hold.map (· + 1) }

/-- The recompute in progress after one more microsecond (R96). -/
def VerdictUnit.tick (v : VerdictUnit) : VerdictUnit :=
  match v.activity with
  | .recomputing r => { v with activity := .recomputing { r with elapsed := r.elapsed + 1 } }
  | .idle => v

/-- The set-up and the strobes one microsecond nearer their end; MREQ rises as the set-up ends (R133). -/
def SteerPins.count (p : SteerPins) : SteerPins :=
  { p with
    setUp := p.setUp - 1
    mreq := if p.setUp = 1 then strobeMicros else p.mreq - 1
    mcan := p.mcan - 1 }

/-- The drive that waits longest begins, where none is being made. -/
def SteerPins.next (p : SteerPins) : SteerPins :=
  match p.waiting with
  | [] => p
  | d :: rest => if p.resting then SteerPins.start d { p with waiting := rest } else p

/-- The output pins after one more microsecond (R133). -/
def Mux.tick (m : Mux) : Mux := { m with pins := m.pins.count.next }

/-- One microsecond passes; in HOLD station time and every timer stand (R147, R159). -/
def passMicro (s : State) : State :=
  if s.ctl.state = .hold then s
  else
    { s with
      ctl := s.ctl.tick
      bus := s.bus.tick
      verdicts := s.verdicts.tick
      mux := s.mux.tick }

/-- The step on an empty queue: the first event that is due is queued, or else one microsecond passes. -/
def idle (s : State) : State :=
  match (dueCommands s).head? with
  | some c => { s with pending := [c] }
  | none => passMicro s

end Sys2Proof.Machine
end

