-- ==== Sys2Proof/Machine/Dispatch.lean ====
section
/-! DEFINITION. Dispatch: one arm per command, each a direct call of its meaning. -/

namespace Sys2Proof.Machine

def exec (i : Instr) (s : State) : Host.Outcome State Fault Refusal :=
  match i with
  | .serrPulse p => Sys2Proof.Machine.execSerrPulse p s
  | .helloPulse p => Sys2Proof.Machine.execHelloPulse p s
  | .signalLoss p => Sys2Proof.Machine.execSignalLoss p s
  | .signalPresent p => Sys2Proof.Machine.execSignalPresent p s
  | .epochEnd => Sys2Proof.Machine.execEpochEnd s
  | .helloSilence p => Sys2Proof.Machine.execHelloSilence p s
  | .revertTimerExpiry p => Sys2Proof.Machine.execRevertTimerExpiry p s
  | .transmissionAttempt rival => Sys2Proof.Machine.execTransmissionAttempt rival s
  | .transmissionComplete taken => Sys2Proof.Machine.execTransmissionComplete taken s
  | .restartNotice n span => Sys2Proof.Machine.execRestartNotice n span s
  | .configNotice n span => Sys2Proof.Machine.execConfigNotice n span s
  | .queryNotice n span => Sys2Proof.Machine.execQueryNotice n span s
  | .healthNotice n span => Sys2Proof.Machine.execHealthNotice n span s
  | .digestNotice n span => Sys2Proof.Machine.execDigestNotice n span s
  | .discardedNotice n span => Sys2Proof.Machine.execDiscardedNotice n span s
  | .truncatedNotice => Sys2Proof.Machine.execTruncatedNotice s
  | .holdLimitExpiry => Sys2Proof.Machine.execHoldLimitExpiry s
  | .absorption => Sys2Proof.Machine.execAbsorption s
  | .beaconExpiry => Sys2Proof.Machine.execBeaconExpiry s
  | .freshnessExpiry id => Sys2Proof.Machine.execFreshnessExpiry id s
  | .expiryTimerExpiry id => Sys2Proof.Machine.execExpiryTimerExpiry id s
  | .recomputeCompletion => Sys2Proof.Machine.execRecomputeCompletion s
  | .condemnHoldExpiry sw => Sys2Proof.Machine.execCondemnHoldExpiry sw s
  | .backoffExpiry c p => Sys2Proof.Machine.execBackoffExpiry c p s
  | .issue => Sys2Proof.Machine.execIssue s
  | .answerDone => Sys2Proof.Machine.execAnswerDone s
  | .answerRefused => Sys2Proof.Machine.execAnswerRefused s
  | .answerCancelled => Sys2Proof.Machine.execAnswerCancelled s
  | .answerLimitExpiry => Sys2Proof.Machine.execAnswerLimitExpiry s
  | .cancelLimitExpiry => Sys2Proof.Machine.execCancelLimitExpiry s
  | .mrdyFall => Sys2Proof.Machine.execMrdyFall s
  | .mrdyRise => Sys2Proof.Machine.execMrdyRise s
  | .configWaitExpiry => Sys2Proof.Machine.execConfigWaitExpiry s
  | .joinTimeExpiry => Sys2Proof.Machine.execJoinTimeExpiry s
  | .rstnFall => Sys2Proof.Machine.execRstnFall s
  | .rstnRise => Sys2Proof.Machine.execRstnRise s
  | .warmResetEnd => Sys2Proof.Machine.execWarmResetEnd s
  | .supplyLow => Sys2Proof.Machine.execSupplyLow s
  | .supplyGood pins => Sys2Proof.Machine.execSupplyGood pins s
  | .markInsideNotice mark => Sys2Proof.Machine.execMarkInsideNotice mark s

end Sys2Proof.Machine
end

