-- ==== Sys2Proof/Safety.lean ====
section
/-! DEFINITION. What counts as a safe state and a safe run: the laws that the spec's rules keep, block by block, as
predicates over State. Each law holds at `State.reset` and is kept by every step; the obligations say so. -/

namespace Sys2Proof.Safety

open Sys2Proof.Machine

/-- A step is safe if it answers a next state: the machine has no fault and refuses nothing. -/
def Safe (s : State) : Prop := ∃ t, step s = .next t

/-- The configuration store holds what an accepted CONFIG or the defaults can leave in it, as far as other laws need it:
PROBATION_EPOCHS within 1 to 255 (R148). -/
def SettingsLaw (s : State) : Prop :=
  1 ≤ (settings s).probationEpochs ∧ (settings s).probationEpochs ≤ 255

/-- An unconfigured station has an empty configuration store, and a station that steers has one (R151, R158). -/
def StoreLaw (s : State) : Prop :=
  (s.ctl.state = .unconfigured → s.ctl.config = none) ∧
  (steers s = true → s.ctl.config.isSome = true)

/-- The counts of a lane stay within 0 to 65535 (R5, R7). -/
def LaneLaw (l : Lane) : Prop := l.errors ≤ 65535 ∧ l.peak ≤ 65535

/-- A port is carrying: UP or SUSPECT. -/
def carrying (r : PortRecord) : Prop := r.state = .up ∨ r.state = .suspect

/-- The fields of a port record stand together as R20, R22, R24, R26 and R27 say. -/
structure PortLaw (probationEpochs : Nat) (r : PortRecord) : Prop where
  score_le : r.score ≤ 1023
  score_waiting : r.state = .down ∨ r.state = .probation → r.score = 1023
  count_le : r.cleanEpochs ≤ 255
  count_probation : r.state = .probation → r.cleanEpochs < probationEpochs
  since_iff : r.upSince.isSome = true ↔ carrying r
  revert_iff : r.revertTimer.isSome = true ↔ carrying r
  ready_carrying : r.revertReady = true → carrying r

/-- The law of the line monitor and the port records. -/
structure PortsLaw (s : State) : Prop where
  store : StoreLaw s
  settings : SettingsLaw s
  lanes : ∀ p, LaneLaw (s.lanes.get p)
  ports : ∀ p, PortLaw (Machine.settings s).probationEpochs (s.ports.get p)
  unconfigured : s.ctl.config = none → ∀ p, (s.ports.get p).state = .down

/-- A class record by itself: status, current port and target stand together (R109 to R112). -/
structure ClassLaw (r : ClassRecord) : Prop where
  current_listed : ∀ p, r.current = some p → p ∈ r.prefs
  target_listed : ∀ p, r.target = some p → p ∈ r.prefs
  target_iff : r.target.isSome = true ↔ r.status = .moving
  unused_iff : r.status = .unused ↔ r.prefs = []
  unplaced_current : r.status = .unplaced → r.current = none
  placed_current : r.status = .placed → r.current.isSome = true
  current_open : ∀ p, r.current = some p → r.barred.get p = none
  target_open : ∀ p, r.target = some p → r.barred.get p = none
  target_elsewhere : ∀ p, r.target = some p → r.current ≠ some p

/-- A move queue entry against the record of its class (R119, R128, R131, R136). -/
structure EntryLaw (s : State) (e : QueueEntry) : Prop where
  waiting : (s.classes.get e.cls).status = .unplaced ∨ (s.classes.get e.cls).status = .placed
  place_iff : e.kind = .place ↔ (s.classes.get e.cls).current = none
  listed : e.target ∈ (s.classes.get e.cls).prefs
  usable : (portTier s (s.classes.get e.cls) e.target).isSome = true
  elsewhere : (s.classes.get e.cls).current ≠ some e.target

/-- The outstanding move against the port state and the record of its class (R134, R139). -/
structure MoveLaw (s : State) : Prop where
  present_iff : s.mux.outstanding.isSome = true ↔
    s.mux.port = .await ∨ s.mux.port = .cancelling ∨ s.mux.port = .stalled
  moving_iff : ∀ c, (s.classes.get c).status = .moving ↔
    ∃ m, s.mux.outstanding = some m ∧ m.cls = c
  target_eq : ∀ m, s.mux.outstanding = some m → (s.classes.get m.cls).target = some m.target
  cancelling_drained : ∀ m, s.mux.outstanding = some m → s.mux.port = .cancelling → m.mode = .drained
  drained_origin : ∀ m, s.mux.outstanding = some m → m.mode = .drained →
    (s.classes.get m.cls).current.isSome = true

/-- The strobes of the output pins: at most one of a set-up, an MREQ strobe and an MCAN strobe is in progress, of a
microsecond at most, and a drive waits only for one of them (R133; notes/assumptions/37.md). -/
structure StrobeLaw (p : SteerPins) : Prop where
  alone : p.setUp + p.mreq + p.mcan ≤ 1
  waiting : p.waiting ≠ [] → p.setUp + p.mreq + p.mcan = 1

/-- The law of class steering, the move queue and the steering port. -/
structure SteerLaw (s : State) : Prop where
  store : StoreLaw s
  classes : ∀ c, ClassLaw (s.classes.get c)
  entries : ∀ e ∈ s.mux.queue, EntryLaw s e
  single : (s.mux.queue.map QueueEntry.cls).Nodup
  move : MoveLaw s
  strobes : StrobeLaw s.mux.pins
  unconfigured : s.ctl.config = none → ∀ c, (s.classes.get c).prefs = []
  joining : s.ctl.state = .joining → ∀ e ∈ s.mux.queue, e.kind = .place
  resetting : s.ctl.state = .resetting → s.mux.queue = [] ∧ s.mux.outstanding = none

/-- The kind of the notice in the receive slot. -/
def slotKind (s : State) : Option NoticeKind := s.bus.slot.bind fun n => readKind n.header.kind

/-- The law of the transmit queue and of health reporting (R53, R55, R57, R76, R77). -/
structure QueueLaw (s : State) : Prop where
  one_health : s.bus.queue.countP TxEntry.isHealth ≤ 1
  one_digest : s.bus.queue.countP (fun e => !e.isHealth) ≤ 1
  health_gate : hasHealth s = true → healthGate s = true
  mark_sending : s.bus.dueMark = true → sendingHealth s = true
  sending_queued : ∀ e n, s.bus.activity = .sending e n → e ∈ s.bus.queue
  query_alone : slotKind s = some .query → hasDigest s = false
  beacon_gate : s.beacon.isRunning = true → healthGate s = true

/-- The law of the peer view table (R83, R84), with what the receive slot may hold for it. -/
structure PeersLaw (s : State) : Prop where
  own : isStationId s.ctl.id = true
  increasing : (s.view.entries.map PeerEntry.id).Pairwise (· < ·)
  ids : ∀ e ∈ s.view.entries, isStationId e.id = true ∧ e.id ≠ s.ctl.id
  slot : ∀ n, s.bus.slot = some n → readKind n.header.kind = some .health →
    isStationId n.header.sender.toNat = true ∧ n.header.sender.toNat ≠ s.ctl.id

/-- A switch record by itself: CONDEMNED exactly while the condition flag is set or the hold timer is running or has
just expired (R101 to R103). -/
structure SwitchLaw (w : SwitchRecord) : Prop where
  condemned_iff : w.verdict = .condemned ↔ w.condition = true ∨ w.holdTimer ≠ .stopped
  condition_stopped : w.condition = true → w.holdTimer = .stopped

/-- The law of the verdict unit, in every station state but HOLD, where the timers stop (R103, R108). -/
def VerdictLaw (s : State) : Prop :=
  s.ctl.state ≠ .hold → ∀ sw, SwitchLaw (s.verdicts.switches.get sw)

/-- The move queue by itself: at most one entry to a class, and in order of rank, every PLACE and EVACUATE ahead of
every SHED, and every SHED ahead of every REVERT (R128, R129). -/
structure RankLaw (s : State) : Prop where
  single : (s.mux.queue.map QueueEntry.cls).Nodup
  ordered : (s.mux.queue.map fun e => e.kind.rank).Pairwise (· ≤ ·)

/-- The order of the move queue: rank, then the earlier queued-at modulo 2^32, then the lower class number (R129). -/
def comesBefore (a b : QueueEntry) : Prop :=
  a.kind.rank < b.kind.rank ∨
  (a.kind.rank = b.kind.rank ∧
    ((a.queuedAt ≠ b.queuedAt ∧ (b.queuedAt - a.queuedAt).toNat < 2 ^ 31) ∨
      (a.queuedAt = b.queuedAt ∧ a.cls.val < b.cls.val)))

/-! ## Instants of station time -/

/-- The instant `ms` milliseconds from now. -/
def afterMs (s : State) (ms : Nat) : Instant :=
  { time := s.ctl.time + BitVec.ofNat 32 ms, micros := s.ctl.micros }

/-- The whole millisecond of station time at which `ms` milliseconds have been counted from now (R12, R28, R83;
DEDUCED, notes/assumptions/32.md). -/
def countedMs (s : State) (ms : Nat) : Instant :=
  { time := s.ctl.time + BitVec.ofNat 32 ms, micros := 0 }

/-- The instant `due` has come: its whole milliseconds compare as station times do, modulo 2^32, and within one
millisecond the microseconds decide (00 section 4.3, R147). -/
abbrev RanOut (s : State) (due : Instant) : Prop :=
  (s.ctl.time - due.time).toNat < 2 ^ 31 ∧ (s.ctl.time = due.time → due.micros ≤ s.ctl.micros)

/-- 20 ms have passed since the instant `u` (R54). -/
abbrev GapOver (s : State) (u : Instant) : Prop :=
  20000 + u.micros ≤ (s.ctl.time - u.time).toNat * 1000 + s.ctl.micros

/-! ## What an event leaves alone -/

/-- What evaluations, issues and answers leave alone: everything outside the class records and the steering port
controller, and there the recorded level of MRDY. -/
structure OnlySteers (s t : State) : Prop where
  lanes : t.lanes = s.lanes
  epoch : t.epoch = s.epoch
  ports : t.ports = s.ports
  opinions : t.opinions = s.opinions
  bus : t.bus = s.bus
  beacon : t.beacon = s.beacon
  view : t.view = s.view
  verdicts : t.verdicts = s.verdicts
  ctl : t.ctl = s.ctl
  pending : t.pending = s.pending
  mrdy : t.mux.mrdy = s.mux.mrdy
  alertReleased : t.mux.alertReleased = s.mux.alertReleased

/-- Everything of a class record that an evaluation and an issue leave alone: all but its status and its target. -/
def KeepsPlacement (s t : State) : Prop :=
  ∀ c, (t.classes.get c).prefs = (s.classes.get c).prefs ∧
    (t.classes.get c).current = (s.classes.get c).current ∧
    (t.classes.get c).barred = (s.classes.get c).barred

/-! ## What an event causes in other blocks -/

/-- The bus controller `after` a cause of a HEALTH that met it `before`, with the gate of R76 open or closed: a HEALTH
that is being sent is marked due again, one that waits covers the cause, and otherwise one joins the tail (R53, R55,
R76). -/
structure CauseHandled (gate : Bool) (before after : Bus) : Prop where
  closed : gate = false → after = before
  marked : gate = true → (∃ n, before.activity = .sending .health n) →
    after = { before with dueMark := true }
  waiting : gate = true → (∀ n, before.activity ≠ .sending .health n) →
    TxEntry.health ∈ before.queue → after = before
  joined : gate = true → (∀ n, before.activity ≠ .sending .health n) →
    TxEntry.health ∉ before.queue → after = { before with queue := before.queue ++ [.health] }

/-- A recompute request met the verdict unit of `s` and left `t`: one starts, reading Q_COND, Q_CLEAR, the mapped
ports, the own opinions and the counts of `t`, or the again flag of the one in progress is set (R95, R96). -/
structure RecomputeRequested (s t : State) : Prop where
  starts : s.verdicts.activity = .idle →
    t.verdicts.again = false ∧
    t.verdicts.activity = .recomputing
      { qCond := (settings t).qCond, qClear := (settings t).qClear,
        mapped := Eight.build fun sw => (mappedPorts t.ctl.config sw).length, elapsed := 0 } ∧
    ∀ sw, t.verdicts.switches.get sw =
      { s.verdicts.switches.get sw with
        opinionRead := t.opinions.get sw, lastA := accusers t.view.entries sw,
        lastK := clearers t.view.entries sw }
  again : ∀ r, s.verdicts.activity = .recomputing r → t.verdicts = { s.verdicts with again := true }

/-- The output pins `p` after the controller has a drive to make: it begins at once, with the lines set a microsecond
before MREQ rises or with MCAN rising, where no other is being made, and waits for its turn elsewhere (R133;
notes/assumptions/37.md). -/
def pinsAfter (d : Drive) (p : SteerPins) : SteerPins :=
  if p.setUp = 0 ∧ p.mreq = 0 ∧ p.mcan = 0 ∧ p.waiting = [] then
    match d with
    | .request m =>
      { p with mcls := m.cls, mtgt := m.target, mmode := decide (m.mode = .drained), setUp := 1 }
    | .cancel => { p with mcan := 1 }
  else { p with waiting := p.waiting ++ [d] }

/-- The steering port controller of `s` after the state of port `p` became what it is in `t`: a DRAINED move in AWAIT
is cancelled, with MCAN strobed in its turn, if `p` is its target and is DOWN or in PROBATION, or is the port its
class is on and is DOWN (R138). -/
def muxAfterTrigger (p : PortId) (s t : State) : Mux :=
  match s.mux.port, s.mux.outstanding with
  | .await, some m =>
    if m.mode = .drained ∧
        ((p = m.target ∧ ((t.ports.get p).state = .down ∨ (t.ports.get p).state = .probation)) ∨
          ((s.classes.get m.cls).current = some p ∧ (t.ports.get p).state = .down)) then
      { s.mux with
        port := .cancelling, answerLimit := .stopped, pins := pinsAfter .cancel s.mux.pins,
        cancelLimit := .running (afterMs s 10) }
    else s.mux
  | _, _ => s.mux

/-- What a change of the state of port `p` hands onward, `t` being the state after it: the own opinions are derived;
where they changed, a HEALTH is due under the gate of R76 and a recompute is requested; the steering port controller
sees its cancel triggers; and every in-use class is evaluated and the issue test made. The rest is left as it is (R33,
R34, R76, R95, R114, R135, R138). -/
structure HandedOnward (p : PortId) (s t : State) : Prop where
  epoch : t.epoch = s.epoch
  opinions : t.opinions = deriveOpinions t
  same : t.opinions = s.opinions → t.bus = s.bus ∧ t.verdicts = s.verdicts
  health : t.opinions ≠ s.opinions → CauseHandled (healthGate s) s.bus t.bus
  recompute : t.opinions ≠ s.opinions → RecomputeRequested s t
  verdicts : ∀ sw, (t.verdicts.switches.get sw).verdict = (s.verdicts.switches.get sw).verdict ∧
    (t.verdicts.switches.get sw).condition = (s.verdicts.switches.get sw).condition ∧
    (t.verdicts.switches.get sw).holdTimer = (s.verdicts.switches.get sw).holdTimer
  steering : t = issueTest (evaluateAll
    { t with classes := s.classes, mux := muxAfterTrigger p s t })
  beacon : t.beacon = s.beacon
  view : t.view = s.view
  classes : KeepsPlacement s t
  mrdy : t.mux.mrdy = s.mux.mrdy
  alertReleased : t.mux.alertReleased = s.mux.alertReleased
  ctl : t.ctl = s.ctl
  pending : t.pending = s.pending

/-- The state of a port that was DOWN after a lane status report in JOINING: PROBATION where its lane is present, its
signal is present and its hello-seen condition is met, else DOWN (R13, R17, R22). -/
def reportedState (l : Lane) (supervised : Bool) : PortState :=
  if l.present = true ∧ l.level = some true ∧ (supervised = false ∨ l.helloSeen = true) then
    .probation
  else .down

/-- A timer after the entry to HOLD: a running one is stopped (R159). -/
def Halted (before after : Timer) : Prop :=
  (∀ due, before = .running due → after = .stopped) ∧ (before.isRunning = false → after = before)

/-! ## What an evaluation hands the move queue -/

/-- `q` is `rest` with the entry `e` put in its place by the order of R129. -/
def Placed (e : QueueEntry) (rest q : List QueueEntry) : Prop :=
  ∃ front back, rest = front ++ back ∧ q = front ++ e :: back ∧
    (∀ x ∈ front, ¬ comesBefore e x) ∧ (∀ x, back.head? = some x → comesBefore e x)

/-- The earliest start of a move of a kind counted from a station time: at once for PLACE and EVACUATE, after the
stagger delay for SHED and REVERT (R120). -/
def startAfter (s : State) (k : MoveKind) (t : Time) : Time :=
  if k = .place ∨ k = .evacuate then t
  else t + BitVec.ofNat 32 (s.ctl.id * (settings s).stagger)

/-- The move queue `q` after class `c` wants a move of kind `k` to port `b`: a class without an entry gets a new one,
queued now; an entry of the same kind takes the target; an entry of another kind takes kind and target, keeps its
queued-at, and stays in its place within its rank or is put in its place in another (R120, R129 to R131). -/
structure Wants (s : State) (c : ClassId) (k : MoveKind) (b : PortId) (q : List QueueEntry) : Prop where
  fresh : (∀ e ∈ s.mux.queue, e.cls ≠ c) →
    Placed
      { cls := c, kind := k, target := b, queuedAt := s.ctl.time,
        earliestStart := startAfter s k s.ctl.time }
      s.mux.queue q
  known : ∀ front e back, s.mux.queue = front ++ e :: back → e.cls = c →
    (∀ x ∈ front ++ back, x.cls ≠ c) →
    (e.kind = k → q = front ++ { e with target := b } :: back) ∧
    (e.kind ≠ k → ∀ e', e' =
        { e with
          kind := k, target := b
          earliestStart := startAfter s k (if k = .place ∨ k = .evacuate then s.ctl.time else e.queuedAt) } →
      (e.kind.rank = k.rank → q = front ++ e' :: back) ∧
      (e.kind.rank ≠ k.rank → Placed e' (front ++ back) q))

/-- The move queue `q` after class `c` wants no move: it holds no entry of the class and every other one in its order
(R119, R130). -/
def WantsNone (s : State) (c : ClassId) (q : List QueueEntry) : Prop :=
  q = s.mux.queue.filter fun e => decide (e.cls ≠ c)

/-! ## What the end of a move leaves -/

/-- The state of `s` with the outstanding move of class `c` ended, before the evaluation: the class record is `r`, no
move is outstanding, no limit timer runs and the port is READY (R137, R139). -/
def moveEnded (s : State) (c : ClassId) (r : ClassRecord) : State :=
  { s with
    classes := s.classes.set c r
    mux := { s.mux with
      outstanding := none, answerLimit := .stopped, cancelLimit := .stopped, port := .ready } }

/-- The port of `t` is READY with no move outstanding, or in AWAIT with the move that the issue test of an event of `s`
found: that of an entry which was eligible, has left the queue, and whose class is MOVING to its target (R135, R136). -/
def ReadyOrIssued (s t : State) : Prop :=
  (t.mux.port = .ready ∧ t.mux.outstanding = none) ∨
  (t.mux.port = .await ∧ ∃ e : QueueEntry, (s.ctl.time - e.earliestStart).toNat < 2 ^ 31 ∧
    (s.ctl.state = .joining → e.kind = .place) ∧
    t.mux.outstanding = some { cls := e.cls, target := e.target, mode := e.kind.mode } ∧
    (t.classes.get e.cls).status = .moving ∧ (t.classes.get e.cls).target = some e.target ∧
    ∀ x ∈ t.mux.queue, x.cls ≠ e.cls)

/-! ## What a notice row meets -/

/-- The whole of notice `n`, of kind `k` and with the right check code, reaches a station that is IDLE, on wires that
carry no other notice (R43, R46, R48). -/
structure Arrives (s : State) (n : Notice) (k : NoticeKind) : Prop where
  awake : awake s = true
  idle : s.bus.activity = .idle
  quiet : s.bus.wires.foreign = false
  form : n.header.kindInForm = some k
  complete : n.complete = true
  check : n.checkRight = true

/-- The bus controller after a notice has passed and the station is IDLE again, with BDT driven low in its take slot
or not; everything else of the bus controller is as it was. -/
def passed (b : Bus) (taken : Bool) : Bus :=
  { b with
    activity := .idle, quiet := 0, sinceEvent := 0, wires := quietWires, hold := none,
    takeDriven := taken }

/-- The rest of notice `n`, of kind `k` and with the right check code, is to come at a station that has followed it to
its hold slot and holds it no longer (R44). -/
structure Resumes (s : State) (n : Notice) (k : NoticeKind) : Prop where
  awake : awake s = true
  headed : s.bus.activity = .receiving (.headed n.header)
  released : s.bus.hold = none
  form : n.header.kindInForm = some k
  complete : n.complete = true
  check : n.checkRight = true

/-- `row` is one of the six notice rows of the opcode table, for the notice `n`. -/
def IsNoticeRow (n : Notice) (row : NoticeSpan → Instr) : Prop :=
  row = .restartNotice n ∨ row = .configNotice n ∨ row = .queryNotice n ∨ row = .healthNotice n ∨
    row = .digestNotice n ∨ row = .discardedNotice n

/-- The spans of a notice, part by part in the order of R38, take the station from `s` to `t`. -/
def PartByPart (row : NoticeSpan → Instr) (s t : State) : Prop :=
  ∃ a b c d, exec (row .startMark) s = .next a ∧ exec (row .header) a = .next b ∧
    exec (row .body) b = .next c ∧ exec (row .takeSlot) c = .next d ∧
    exec (row .stopMark) d = .next t

/-! ## What a warm reset leaves -/

/-- The status and the current port of a class after a warm reset, by its status before it (R126). -/
def ResetPlacement (before after : ClassRecord) : Prop :=
  after.prefs = before.prefs ∧ after.target = none ∧ (∀ p, after.barred.get p = none) ∧
  (before.status = .unused → after.status = .unused ∧ after.current = before.current) ∧
  (before.status = .unplaced ∨ before.status = .moving →
    after.status = .unplaced ∧ after.current = none) ∧
  (before.status = .placed → after.status = .placed ∧ after.current = before.current) ∧
  (before.status = .stranded →
    after.current = before.current ∧
    after.status = if before.current.isSome then .placed else .unplaced)

/-- The state `t` that the start of a warm reset leaves of `s`, block by block (R18, R36, R60, R82, R93, R107, R126,
R145, R157; of the model's own fields, the record of the drive in the take slot is cleared, notes/assumptions/21.md, a
notice that was being received is still on the wires, and one that was being sent as far as another station drives it
too, notes/assumptions/30.md, and the record of ALRTN is cleared, notes/assumptions/31.md; that the steering port
follows MRDY at the start already, notes/assumptions/38.md). -/
structure WarmResetOf (s t : State) : Prop where
  lanes : ∀ p, t.lanes.get p =
    { s.lanes.get p with errors := 0, peak := 0, helloTimer := .stopped, helloSeen := false }
  epoch : t.epoch = s.epoch
  ports : ∀ p, t.ports.get p =
    if (s.ports.get p).state = .absent then
      { state := .absent, cause := .start, score := 0, cleanEpochs := 0, upSince := none,
        revertTimer := none, revertReady := false }
    else
      { state := .down, cause := .start, score := 1023, cleanEpochs := 0, upSince := none,
        revertTimer := none, revertReady := false }
  opinions : ∀ sw, t.opinions.get sw = ownOpinion t sw
  bus : t.bus =
    { activity := .idle, quiet := 0, sinceEvent := 0
      wires :=
        { s.bus.wires with foreign := s.bus.wires.foreign || isReceiving s }
      hold := none, slot := none, queue := [], dueMark := false, lastHealthEnd := none,
      lastTaken := false, overrun := false, takeDriven := false }
  beacon : t.beacon = .stopped
  view : t.view = { entries := [], held := [] }
  switches : ∀ sw, t.verdicts.switches.get sw =
    { verdict := .clear, opinionRead := .none, lastA := 0, lastK := 0, condition := false,
      holdTimer := .stopped }
  recompute : t.verdicts.activity = .idle ∧ t.verdicts.again = false
  classes : ∀ c, ResetPlacement (s.classes.get c) (t.classes.get c)
  mux : t.mux =
    { s.mux with
      queue := [], port := if s.mux.mrdy then .ready else .offline, outstanding := none,
      answerLimit := .stopped, cancelLimit := .stopped
      pins := { s.mux.pins with setUp := 0, mreq := 0, mcan := 0, waiting := [] }
      alertReleased := false }
  ctl : t.ctl =
    { s.ctl with
      state := .resetting, silenced := false, lateConfig := false, configWait := .stopped,
      joinTime := .stopped, resetQuiet := 0 }
  pending : t.pending = s.pending

end Sys2Proof.Safety
end

