-- ==== Sys2Proof/Certificates/Slice0/Obligations.lean ====
section
/-! DEFINITION. The statements for the provers, in the order of OBLIGATIONS.json. Each docstring names the rules of
spec/ that a statement rests on. -/

open Sys2Proof Sys2Proof.Machine Sys2Proof.Safety

/-! ## The machine as a whole -/

/-- A step takes the command at the front of the queue and answers what it does to the state with the queue's rest (the
queue is the model's, notes/assumptions/24.md). -/
def Obligations.StepRunsFrontCommand : Prop :=
  ∀ (c : Instr) (rest : List Instr) (s : State), s.pending = c :: rest →
    step s = exec c { s with pending := rest }

/-- A step on an empty queue queues the first event that is due, with no time passing; in HOLD none is due and nothing
changes; and where none is due, one microsecond of station time passes: the milliseconds advance with every thousandth
and wrap at 2^32, the bus-free timer of an IDLE station runs while both lines are high, the time since its latest
event runs, a hold gets older, and on the output pins MREQ rises as the set-up of the lines ends, a strobe falls after
its microsecond, and the drive that waits longest then begins (R39, R44, R133, R147, R159; that the clock is what an
empty queue runs is the model's choice, notes/assumptions/2.md, when the lines are quiet, notes/assumptions/30.md, and
that drives wait for their turn, notes/assumptions/37.md). -/
def Obligations.EmptyQueueRunsClock : Prop :=
  ∀ s : State, s.pending = [] →
    (∀ c rest, dueCommands s = c :: rest → step s = .next { s with pending := [c] }) ∧
    (s.ctl.state = .hold → step s = .next s) ∧
    (dueCommands s = [] → s.ctl.state ≠ .hold →
      ∃ t, step s = .next t ∧
        (s.ctl.micros < 1000 → t.ctl.micros < 1000 ∧
          t.ctl.time.toNat * 1000 + t.ctl.micros =
            (s.ctl.time.toNat * 1000 + s.ctl.micros + 1) % (2 ^ 32 * 1000)) ∧
        t.ctl.id = s.ctl.id ∧ t.ctl.state = s.ctl.state ∧ t.ctl.config = s.ctl.config ∧
        t.lanes = s.lanes ∧ t.epoch = s.epoch ∧ t.ports = s.ports ∧ t.opinions = s.opinions ∧
        t.beacon = s.beacon ∧ t.view = s.view ∧ t.classes = s.classes ∧
        t.verdicts.switches = s.verdicts.switches ∧ t.mux.queue = s.mux.queue ∧
        t.mux.port = s.mux.port ∧ t.mux.outstanding = s.mux.outstanding ∧
        (∀ p, p = s.mux.pins → StrobeLaw p →
          (p.setUp = 1 → t.mux.pins = { p with setUp := 0, mreq := 1 }) ∧
          (p.setUp = 0 → p.waiting = [] → t.mux.pins = { p with mreq := 0, mcan := 0 }) ∧
          (p.setUp = 0 → ∀ d rest, p.waiting = d :: rest →
            (∀ m, d = .request m → t.mux.pins =
              { mcls := m.cls, mtgt := m.target, mmode := decide (m.mode = .drained), setUp := 1,
                mreq := 0, mcan := 0, waiting := rest }) ∧
            (d = .cancel → t.mux.pins =
              { p with mreq := 0, mcan := 1, waiting := rest }))) ∧
        t.bus = { s.bus with
          quiet := if s.bus.activity = .idle ∧ s.bus.wires.clockRuns = false ∧
              s.bus.wires.dataLow = false then
              min 50 (s.bus.quiet + 1)
            else s.bus.quiet
          sinceEvent := min 50 (s.bus.sinceEvent + 1)
          hold := s.bus.hold.map fun t => t + 1 } ∧
        t.pending = [])

/-- Every command answers a next state in every state, and leaves the queue of waiting commands as it is: the spec has
no trap and no undefined behaviour (the queue is the model's, notes/assumptions/24.md). -/
def Obligations.EveryCommandCompletes : Prop :=
  ∀ (c : Instr) (s : State), ∃ t, exec c s = .next t ∧ t.pending = s.pending

/-- In HOLD every command but SUPPLY_GOOD leaves the state as it is; in a warm reset every command does but those of
SIG, MRDY, RSTN and the supply, the epoch end and the end of the warm reset, and those of the bus, which are not
followed: they say what the lines carry, and begin the bus-free time anew or, as a clock that has been high for 100
µs, let it have run where BDT is high (R1, R19, R35, R39, R60, R61, R108, R127, R145, R157, R159;
notes/assumptions/28.md, notes/assumptions/30.md). -/
def Obligations.HoldAndWarmResetTakeNoOtherEvent : Prop :=
  ∀ (c : Instr) (s : State),
    (s.ctl.state = .hold → (∀ pins, c ≠ .supplyGood pins) → exec c s = .next s) ∧
    (s.ctl.state = .resetting →
      (∀ p, c ≠ .signalLoss p) → (∀ p, c ≠ .signalPresent p) → c ≠ .epochEnd → c ≠ .mrdyFall →
      c ≠ .mrdyRise → c ≠ .rstnFall → c ≠ .rstnRise → c ≠ .warmResetEnd →
      c ≠ .supplyLow →
      (∀ n row span, IsNoticeRow n row → c ≠ row span) → (∀ m, c ≠ .markInsideNotice m) →
      c ≠ .truncatedNotice → exec c s = .next s) ∧
    (s.ctl.state = .resetting →
      (∀ n row, IsNoticeRow n row → ∀ span,
        exec (row span) s =
          .next { s with
            bus := { s.bus with
              quiet := 0
              sinceEvent := if span = .whole ∨ span = .stopMark then 0 else s.bus.sinceEvent
              wires := spanWires n span } }) ∧
      exec (.markInsideNotice .start) s =
        .next { s with
          bus := { s.bus with
            quiet := 0, wires := { foreign := true, clockRuns := false, dataLow := true } } } ∧
      exec (.markInsideNotice .stop) s =
        .next { s with
          bus := { s.bus with
            quiet := 0, sinceEvent := 0
            wires := { foreign := false, clockRuns := false, dataLow := false } } } ∧
      exec .truncatedNotice s =
        .next { s with
          bus := { s.bus with
            quiet := if s.bus.wires.dataLow then 0 else 50
            wires :=
              { foreign := false, clockRuns := false, dataLow := s.bus.wires.dataLow } } })

/-- No command but SUPPLY_GOOD changes the station id, station time or a configuration in the store, and none but
SUPPLY_GOOD and the start of a warm reset, which leaves the station in it, clears the silenced attribute (R146, R147,
R151, R154, R156, R157, R158). -/
def Obligations.OnlyResetsClearStationState : Prop :=
  ∀ (c : Instr) (s t : State), StoreLaw s → exec c s = .next t → (∀ pins, c ≠ .supplyGood pins) →
    t.ctl.id = s.ctl.id ∧ t.ctl.time = s.ctl.time ∧
    (∀ g, s.ctl.config = some g → t.ctl.config = some g) ∧
    (s.ctl.silenced = true → t.ctl.silenced = true ∨ t.ctl.state = .resetting)

/-- ALRTN is driven low exactly while an in-use class is STRANDED, the station is silenced, the steering port is
STALLED, or it is OFFLINE in ACTIVE, and is released in HOLD; SRDY is high in JOINING and ACTIVE, low in UNCONFIGURED
and in a warm reset, and released in HOLD; MREQ, MCAN, MCLS, MTGT and MMODE are released in HOLD, and driven in every
other state: the strobes high while one runs, the lines at the class, target and mode last written (R133, R144, R145,
R159, R164). -/
def Obligations.OutputLines : Prop :=
  ∀ s : State,
    (alertLow s = true ↔ s.ctl.state ≠ .hold ∧
      ((∃ c, (s.classes.get c).prefs ≠ [] ∧ (s.classes.get c).status = .stranded) ∨
        s.ctl.silenced = true ∨ s.mux.port = .stalled ∨
        (s.mux.port = .offline ∧ s.ctl.state = .active))) ∧
    (srdy s = some true ↔ s.ctl.state = .joining ∨ s.ctl.state = .active) ∧
    (srdy s = some false ↔ s.ctl.state = .unconfigured ∨ s.ctl.state = .resetting) ∧
    (srdy s = none ↔ s.ctl.state = .hold) ∧
    (steeringLines s = none ↔ s.ctl.state = .hold) ∧
    (∀ lines, steeringLines s = some lines →
      (lines.mreq = true ↔ 0 < s.mux.pins.mreq) ∧ (lines.mcan = true ↔ 0 < s.mux.pins.mcan) ∧
      lines.mcls = s.mux.pins.mcls ∧ lines.mtgt = s.mux.pins.mtgt ∧
      lines.mmode = s.mux.pins.mmode)

/-! ## Laws that every step keeps -/

/-- The laws of all blocks hold right after a cold reset with the pins of `Config.resetPins` (R18, R36, R60, R93, R107,
R125, R145, R158; the pins are the model's choice, notes/assumptions/1.md). -/
def Obligations.LawsHoldAtReset : Prop :=
  PortsLaw State.reset ∧ SteerLaw State.reset ∧ RankLaw State.reset ∧ QueueLaw State.reset ∧
    PeersLaw State.reset ∧ VerdictLaw State.reset

/-- The fields of every port record stand together, counts stay in range, and no port leaves DOWN before configuration
(R5, R7, R20 to R27, R36). -/
def Obligations.PortRecordsKeepTheirLaw : Prop :=
  ∀ s t : State, PortsLaw s → step s = .next t → PortsLaw t

/-- Status, current port and target of every class stand together, every queue entry and the outstanding move fit the
record of their class, at most one move is outstanding, and of the set-up of the lines, an MREQ strobe and an MCAN
strobe at most one is in progress (R109 to R112, R119, R128, R133, R134, R136; that a drive waits only for another,
notes/assumptions/37.md). -/
def Obligations.SteeringKeepsItsLaw : Prop :=
  ∀ s t : State, SteerLaw s → step s = .next t → SteerLaw t

/-- The move queue holds at most one entry to a class, and stays in order of rank: every PLACE and EVACUATE stands ahead
of every SHED, and every SHED ahead of every REVERT; and within a rank it stays in order of queued-at and then of class
number, where every entry was queued less than 2^31 ms ago (R128, R129). -/
def Obligations.MoveQueueStaysInRankOrder : Prop :=
  ∀ s t : State, RankLaw s → step s = .next t →
    RankLaw t ∧
    ((∀ e ∈ s.mux.queue, (s.ctl.time - e.queuedAt).toNat < 2 ^ 31) →
      s.mux.queue.Pairwise comesBefore → t.mux.queue.Pairwise comesBefore)

/-- The transmit queue holds at most one HEALTH and one DIGEST entry, and a HEALTH entry and a running beacon timer only
in JOINING or ACTIVE and not silenced (R53, R55, R57, R76, R77). -/
def Obligations.TransmitQueueKeepsItsLaw : Prop :=
  ∀ s t : State, QueueLaw s → step s = .next t → QueueLaw t

/-- The peer view table stays in increasing id order, with no entry for the own id and none outside 1 to 30 (R84). -/
def Obligations.PeerTableKeepsItsLaw : Prop :=
  ∀ s t : State, PeersLaw s → step s = .next t → PeersLaw t

/-- A switch is CONDEMNED only while its condition flag is set or its hold timer is running or has expired (R101 to
R103). -/
def Obligations.VerdictsKeepTheirLaw : Prop :=
  ∀ s t : State, VerdictLaw s → step s = .next t → VerdictLaw t

/-! ## Lanes and ports -/

/-- SERR_PULSE: a present lane counts it, whatever the state of its port, up to 65535; an absent lane ignores it (R2,
R5). -/
def Obligations.SerrPulseCounts : Prop :=
  ∀ (s : State) (p : PortId), awake s = true →
    ((s.lanes.get p).present = true →
      exec (.serrPulse p) s =
        .next { s with
          lanes := s.lanes.set p
            { s.lanes.get p with
              errors := if (s.lanes.get p).errors < 65535 then (s.lanes.get p).errors + 1
                else 65535 } }) ∧
    ((s.lanes.get p).present = false → exec (.serrPulse p) s = .next s)

/-- HELLO_PULSE: with supervision on, it restarts the hello timer of a port that is PROBATION, UP or SUSPECT, has no
effect on a DOWN port whose flag is set, and sets a clear flag of a DOWN port; that port then enters PROBATION if the
signal is present and the station JOINING or ACTIVE, with its hello timer started, and the change is handed onward: a
changed own opinion makes a HEALTH due and requests a recompute, a DRAINED move may be cancelled, the classes are
evaluated and the issue test is made. With supervision off, or on an absent lane, the pulse is ignored (R2, R11, R12,
R13, R22, R33, R34, R114, R135, R138; that the hello timer drops the microseconds is deduced,
notes/assumptions/32.md). -/
def Obligations.HelloPulseActsByPortState : Prop :=
  ∀ (s : State) (p : PortId), awake s = true →
    ((s.lanes.get p).present = false ∨ (s.lanes.get p).supervised = false →
      exec (.helloPulse p) s = .next s) ∧
    ((s.lanes.get p).present = true → (s.lanes.get p).supervised = true →
      ((s.ports.get p).state = .probation ∨ (s.ports.get p).state = .up ∨
          (s.ports.get p).state = .suspect →
        exec (.helloPulse p) s =
          .next { s with
            lanes := s.lanes.set p
              { s.lanes.get p with
                helloTimer := .running
                  (countedMs s ((settings s).helloLimit * 10)) } }) ∧
      ((s.ports.get p).state = .down → (s.lanes.get p).helloSeen = true →
        exec (.helloPulse p) s = .next s) ∧
      ((s.ports.get p).state = .down → (s.lanes.get p).helloSeen = false →
        (s.ctl.state = .unconfigured ∨ (s.lanes.get p).level ≠ some true →
          exec (.helloPulse p) s =
            .next { s with lanes := s.lanes.set p { s.lanes.get p with helloSeen := true } }) ∧
        (steers s = true → (s.lanes.get p).level = some true →
          ∃ t, exec (.helloPulse p) s = .next t ∧
            t.ports =
              s.ports.set p { s.ports.get p with state := .probation, cleanEpochs := 0 } ∧
            t.lanes = s.lanes.set p
              { s.lanes.get p with
                helloSeen := true
                helloTimer := .running
                  (countedMs s ((settings s).helloLimit * 10)) } ∧
            t.ctl = s.ctl ∧ HandedOnward p s t)))

/-- SIGNAL_LOSS: the level is recorded; a port in PROBATION, UP or SUSPECT enters DOWN with cause SIGNAL and the
effects of R27, and the change is handed onward: a changed own opinion makes a HEALTH due and requests a recompute, a
DRAINED move may be cancelled, the classes are evaluated and the issue test is made; a DOWN port stays as it is. An
absent lane ignores it, and in a warm reset the level alone is recorded (R2, R9, R12, R13, R26, R27, R33, R34, R114,
R135, R138, R157; a loss is reported also where the recorded level was absent already, the model's choice,
notes/assumptions/36.md). -/
def Obligations.SignalLossTakesPortDown : Prop :=
  ∀ (s : State) (p : PortId),
    (awake s = true → (s.lanes.get p).present = true →
      ((s.ports.get p).state = .probation ∨ (s.ports.get p).state = .up ∨
          (s.ports.get p).state = .suspect →
        ∃ t, exec (.signalLoss p) s = .next t ∧
          t.ports = s.ports.set p
            { state := .down, cause := .signal, score := 1023, cleanEpochs := 0, upSince := none,
              revertTimer := none, revertReady := false } ∧
          t.lanes = s.lanes.set p
            { s.lanes.get p with level := some false, helloTimer := .stopped, helloSeen := false } ∧
          HandedOnward p s t) ∧
      ((s.ports.get p).state = .down →
        exec (.signalLoss p) s =
          .next { s with lanes := s.lanes.set p { s.lanes.get p with level := some false } })) ∧
    ((s.lanes.get p).present = false → exec (.signalLoss p) s = .next s) ∧
    (s.ctl.state = .resetting → (s.lanes.get p).present = true →
      exec (.signalLoss p) s =
        .next { s with lanes := s.lanes.set p { s.lanes.get p with level := some false } })

/-- SIGNAL_PRESENT: the level is recorded; a DOWN port whose hello-seen condition is met enters PROBATION in JOINING
or ACTIVE, and the change is handed onward: the own opinions are derived, a change of them makes a HEALTH due and
requests a recompute, a DRAINED move to the port may be cancelled, the classes are evaluated and the issue test is
made; in every other case nothing else happens. An absent lane ignores it, and in a warm reset the level alone is
recorded (R2, R10, R12, R13, R22, R33, R34, R114, R135, R138, R157; the check is made also where the recorded level
was present already, the model's choice, notes/assumptions/36.md; that the hello timer drops the microseconds is
deduced, notes/assumptions/32.md). -/
def Obligations.SignalPresentEntersProbation : Prop :=
  ∀ (s : State) (p : PortId),
    (awake s = true → (s.lanes.get p).present = true →
      (steers s = true → (s.ports.get p).state = .down →
        (s.lanes.get p).supervised = false ∨ (s.lanes.get p).helloSeen = true →
        ∃ t, exec (.signalPresent p) s = .next t ∧
          t.ports = s.ports.set p { s.ports.get p with state := .probation, cleanEpochs := 0 } ∧
          t.lanes = s.lanes.set p
            { s.lanes.get p with
              level := some true
              helloTimer := if (s.lanes.get p).supervised then
                  .running (countedMs s ((settings s).helloLimit * 10))
                else (s.lanes.get p).helloTimer } ∧
          HandedOnward p s t) ∧
      (s.ctl.state = .unconfigured ∨ (s.ports.get p).state ≠ .down ∨
          ((s.lanes.get p).supervised = true ∧ (s.lanes.get p).helloSeen = false) →
        exec (.signalPresent p) s =
          .next { s with lanes := s.lanes.set p { s.lanes.get p with level := some true } })) ∧
    ((s.lanes.get p).present = false → exec (.signalPresent p) s = .next s) ∧
    (s.ctl.state = .resetting → (s.lanes.get p).present = true →
      exec (.signalPresent p) s =
        .next { s with lanes := s.lanes.set p { s.lanes.get p with level := some true } })

/-- HELLO_SILENCE: the expiry of a hello timer that has run out takes a port in PROBATION, UP or SUSPECT DOWN with
cause SILENT, with the effects of R27, and the change is handed onward: a changed own opinion makes a HEALTH due and
requests a recompute, a DRAINED move may be cancelled, the classes are evaluated and the issue test is made. Where the
timer does not run, or was restarted and has not run out, no expiry takes place (R12, R13, R14, R15, R27, R33, R34,
R114, R135, R138). -/
def Obligations.HelloSilenceTakesPortDown : Prop :=
  ∀ (s : State) (p : PortId),
    (∀ due, awake s = true → (s.lanes.get p).helloTimer = .running due →
      RanOut s due →
      ((s.ports.get p).state = .probation ∨ (s.ports.get p).state = .up ∨
        (s.ports.get p).state = .suspect) →
      ∃ t, exec (.helloSilence p) s = .next t ∧
        t.ports = s.ports.set p
          { state := .down, cause := .silent, score := 1023, cleanEpochs := 0, upSince := none,
            revertTimer := none, revertReady := false } ∧
        t.lanes = s.lanes.set p
          { s.lanes.get p with helloTimer := .stopped, helloSeen := false } ∧
        HandedOnward p s t) ∧
    ((s.lanes.get p).helloTimer.isRunning = false → exec (.helloSilence p) s = .next s) ∧
    (∀ due, (s.lanes.get p).helloTimer = .running due → ¬ RanOut s due →
      exec (.helloSilence p) s = .next s)

/-- EPOCH_END: the epoch timer runs on 100 ms later without drift; every present lane takes its count into its peak and
begins again from 0, and keeps its level, presence and supervision; an absent lane is left as it is. Before the epoch
timer has run out nothing happens (R2, R3, R4, R7). -/
def Obligations.EpochEndClosesEveryLane : Prop :=
  ∀ (s : State) (due : Instant), s.ctl.state ≠ .hold → s.epoch = .running due →
    (¬ RanOut s due → exec .epochEnd s = .next s) ∧
    (RanOut s due →
    ∃ t, exec .epochEnd s = .next t ∧ t.epoch = .running { due with time := due.time + 100#32 } ∧
      t.beacon = s.beacon ∧ t.view = s.view ∧ t.ctl.time = s.ctl.time ∧
      ∀ p,
        ((s.lanes.get p).present = true →
          (t.lanes.get p).errors = 0 ∧
          (t.lanes.get p).peak = max (s.lanes.get p).peak (s.lanes.get p).errors ∧
          (t.lanes.get p).level = (s.lanes.get p).level ∧
          (t.lanes.get p).present = true ∧
          (t.lanes.get p).supervised = (s.lanes.get p).supervised) ∧
        ((s.lanes.get p).present = false → t.lanes.get p = s.lanes.get p))

/-- EPOCH_END updates the score of an UP or SUSPECT port by its epoch count E: a clean epoch takes DECAY off, never
below 0; an error epoch adds E times CVW, capped at 255, and the sum is capped at 1023; the score stays within 0 to
1023, and every count with E times CVW of 255 or more adds 255 (R24). -/
def Obligations.EpochResultUpdatesScore : Prop :=
  ∀ (s : State) (p : PortId) (due : Instant), s.ctl.state ≠ .hold → s.epoch = .running due →
    RanOut s due → (s.lanes.get p).present = true →
    (s.ports.get p).state = .up ∨ (s.ports.get p).state = .suspect →
    ∃ t, exec .epochEnd s = .next t ∧
      ((s.lanes.get p).errors = 0 →
        (t.ports.get p).score = (s.ports.get p).score - (settings s).decay) ∧
      (0 < (s.lanes.get p).errors →
        (t.ports.get p).score =
          min 1023 ((s.ports.get p).score + min 255 ((s.lanes.get p).errors * (settings s).cvw)) ∧
        (255 ≤ (s.lanes.get p).errors * (settings s).cvw →
          (t.ports.get p).score = min 1023 ((s.ports.get p).score + 255))) ∧
      ((s.ports.get p).score ≤ 1023 → (t.ports.get p).score ≤ 1023)

/-- EPOCH_END judges each port by its state: a DOWN or ABSENT port is left as it is; a PROBATION port counts a clean
epoch, enters UP at PROBATION_EPOCHS and enters DOWN with cause ERRORS on any error; an UP or SUSPECT port enters DOWN
at 1023, SUSPECT at T_HI, UP at T_LO, in that order of tests, and otherwise keeps all but its score. A change of state
of one port alone is handed onward (R23 to R28, R33, R34, R138; that the revert timer runs in whole milliseconds is
deduced, notes/assumptions/32.md). -/
def Obligations.EpochResultJudgesPort : Prop :=
  ∀ (s : State) (p : PortId) (due : Instant), s.ctl.state ≠ .hold → s.epoch = .running due →
    RanOut s due → (s.lanes.get p).present = true →
    ∃ t, exec .epochEnd s = .next t ∧
      ((s.ports.get p).state = .down ∨ (s.ports.get p).state = .absent →
        t.ports.get p = s.ports.get p) ∧
      ((s.ports.get p).state = .probation → (s.lanes.get p).errors = 0 →
        ((s.ports.get p).cleanEpochs + 1 < (settings s).probationEpochs →
          t.ports.get p =
            { s.ports.get p with cleanEpochs := (s.ports.get p).cleanEpochs + 1 }) ∧
        ((s.ports.get p).cleanEpochs + 1 = (settings s).probationEpochs →
          t.ports.get p =
            { s.ports.get p with
              state := .up, score := 0, cleanEpochs := (s.ports.get p).cleanEpochs + 1,
              upSince := some s.ctl.time, revertReady := false,
              revertTimer := some (if 0 < (settings s).revertHold then
                  .running (countedMs s ((settings s).revertHold * 1000))
                else .stopped) })) ∧
      ((s.ports.get p).state = .probation → 0 < (s.lanes.get p).errors →
        t.ports.get p =
          { state := .down, cause := .errors, score := 1023, cleanEpochs := 0, upSince := none,
            revertTimer := none, revertReady := false }) ∧
      ((s.ports.get p).state = .up ∨ (s.ports.get p).state = .suspect →
        ∀ v, v = newScore (settings s) (s.ports.get p).score (s.lanes.get p).errors →
        t.ports.get p =
          if v = 1023 then
            { state := .down, cause := .errors, score := 1023, cleanEpochs := 0, upSince := none,
              revertTimer := none, revertReady := false }
          else if (s.ports.get p).state = .up ∧ (settings s).tHi ≤ v then
            { s.ports.get p with state := .suspect, score := v }
          else if (s.ports.get p).state = .suspect ∧ v ≤ (settings s).tLo then
            { s.ports.get p with state := .up, score := v }
          else { s.ports.get p with score := v }) ∧
      ((t.ports.get p).state ≠ (s.ports.get p).state →
        (∀ q, q ≠ p → (t.ports.get q).state = (s.ports.get q).state) → t.ctl = s.ctl →
        HandedOnward p { s with epoch := t.epoch } t) ∧
      ((∀ q, (t.ports.get q).state = (s.ports.get q).state) →
        OnlySteers { s with epoch := t.epoch, ports := t.ports, lanes := t.lanes } t ∧
        t.classes = s.classes ∧ t.mux = s.mux)

/-- REVERT_TIMER_EXPIRY: once the revert timer of a port has run out, its revert-ready flag is set, the timer has
expired and does not restart, every in-use class is evaluated and the issue test is made; nothing else changes. Before
the timer has run out nothing happens (R29, R114, R135). -/
def Obligations.RevertTimerExpirySetsFlag : Prop :=
  ∀ (s : State) (p : PortId) (due : Instant), awake s = true →
    (s.ports.get p).revertTimer = some (.running due) →
    (¬ RanOut s due → exec (.revertTimerExpiry p) s = .next s) ∧
    (RanOut s due →
      ∃ t, exec (.revertTimerExpiry p) s = .next t ∧
        t = issueTest (evaluateAll
          { s with
            ports := s.ports.set p
              { s.ports.get p with revertTimer := some .expired, revertReady := true } }) ∧
        t.ports = s.ports.set p
          { s.ports.get p with revertTimer := some .expired, revertReady := true } ∧
        OnlySteers { s with ports := t.ports } t ∧ KeepsPlacement s t)

/-- The own opinion of a switch is NONE with no present port mapped to it, CLEAR with all of them UP, LOST with all of
them DOWN or PROBATION, and IMPAIRED in any other mix; before configuration it is NONE; and it rests on those port
states alone (R21, R32). -/
def Obligations.OwnOpinionFollowsPortStates : Prop :=
  ∀ (s : State) (sw : SwitchId),
    let mapped := fun p => ∃ g, s.ctl.config = some g ∧ (g.portMap.get p).absent = false ∧
      (g.portMap.get p).switch = sw
    ((∀ p, ¬ mapped p) → ownOpinion s sw = .none) ∧
    ((∃ p, mapped p) → (∀ p, mapped p → (s.ports.get p).state = .up) →
      ownOpinion s sw = .clear) ∧
    ((∃ p, mapped p) →
      (∀ p, mapped p → (s.ports.get p).state = .down ∨ (s.ports.get p).state = .probation) →
      ownOpinion s sw = .lost) ∧
    ((∃ p, mapped p ∧ (s.ports.get p).state ≠ .up) →
      (∃ p, mapped p ∧ (s.ports.get p).state ≠ .down ∧ (s.ports.get p).state ≠ .probation) →
      ownOpinion s sw = .impaired) ∧
    (s.ctl.config = none → ownOpinion s sw = .none) ∧
    (∀ t : State, t.ctl.config = s.ctl.config →
      (∀ p, mapped p → (t.ports.get p).state = (s.ports.get p).state) →
      ownOpinion t sw = ownOpinion s sw)

/-! ## The station bus -/

/-- The check code tells any two strings apart that differ in one byte alone (R46). -/
def Obligations.CheckCodeSeesOneWrongByte : Prop :=
  ∀ (front back : List Byte) (a b : Byte), a ≠ b →
    checkCode (front ++ a :: back) ≠ checkCode (front ++ b :: back)

/-- Every HEALTH that a station builds is of right form, complete and of right check code, and a receiver reads from it
the sender state and the eight opinions that were put in (R46, R62 to R67). -/
def Obligations.HealthReadsBackAsBuilt : Prop :=
  ∀ (s : State) (n : Notice), s.ctl.state = .joining ∨ s.ctl.state = .active →
    isStationId s.ctl.id = true → n = buildEntry s .health →
    n.header = { kind := 4#8, sender := BitVec.ofNat 8 s.ctl.id, target := 31#8, len := 3#8 } ∧
    n.header.kindInForm = some .health ∧ n.complete = true ∧ n.checkRight = true ∧
    n.header.sender.toNat = s.ctl.id ∧
    (readSender n.body = .active ↔ s.ctl.state = .active) ∧ readOpinions n.body = s.opinions

/-- TRANSMISSION_ATTEMPT with no rival: when the station is IDLE, both lines have been high together for 50 µs, and 50
µs have passed since the latest stop mark, reset or truncation, the first eligible entry of the queue is sent, a
DIGEST always and a HEALTH under the gate of R76 once 20 ms have passed since the stop mark of the last one, to the
microsecond; where the bus is not free or no entry is eligible, nothing happens (R39, R45, R53, R54, R76, R162; when
the lines are quiet is the model's, notes/assumptions/30.md; the gate at the start is deduced,
notes/assumptions/26.md; that the 20 ms count modulo 2^32 is the model's, notes/assumptions/29.md). -/
def Obligations.AttemptSendsFirstEligibleEntry : Prop :=
  ∀ s : State, awake s = true →
    (s.bus.activity = .idle → s.bus.wires.clockRuns = false → s.bus.wires.dataLow = false →
      50 ≤ s.bus.quiet → 50 ≤ s.bus.sinceEvent →
      (∀ e front back, s.bus.queue = front ++ e :: back →
        (∀ x ∈ front, x = .health ∧ ¬ (healthGate s = true ∧
          ∀ u, s.bus.lastHealthEnd = some u → GapOver s u)) →
        (e = .health → healthGate s = true ∧
          ∀ u, s.bus.lastHealthEnd = some u → GapOver s u) →
        exec (.transmissionAttempt none) s =
          .next { s with
            bus := { s.bus with
              activity := .sending e (buildEntry s e), quiet := 0
              wires := { foreign := false, clockRuns := false, dataLow := false } } }) ∧
      ((∀ x ∈ s.bus.queue, x = .health ∧ ¬ (healthGate s = true ∧
          ∀ u, s.bus.lastHealthEnd = some u → GapOver s u)) →
        exec (.transmissionAttempt none) s = .next s)) ∧
    (s.bus.activity ≠ .idle ∨ s.bus.wires.clockRuns = true ∨ s.bus.wires.dataLow = true ∨
        s.bus.quiet < 50 ∨ s.bus.sinceEvent < 50 →
      exec (.transmissionAttempt none) s = .next s)

/-- TRANSMISSION_ATTEMPT against the notice of a station that begins in the same instant: at the first byte in which
the notices differ, the lower one wins. A loser becomes RECEIVING in that notice, with its entry kept in the queue and
the records of the last HEALTH unchanged; a loss after the kind byte silences it exactly when the winner bears its own
id, and a loss in the kind byte silences nothing yet. A station that does not lose goes on sending, and where the
other notice is identical to its own, both do (R39, R41, R42, R59; parts of a notice as commands:
notes/assumptions/7.md; that the lines show a sender beside it is the model's, notes/assumptions/30.md). -/
def Obligations.AttemptLosesToLowerNotice : Prop :=
  ∀ (s : State) (e : TxEntry) (rival : Notice), awake s = true → s.bus.activity = .idle →
    s.bus.wires.clockRuns = false → s.bus.wires.dataLow = false → 50 ≤ s.bus.quiet →
    50 ≤ s.bus.sinceEvent → nextEntry s = some e →
    s.ctl.silenced = false →
    (∀ common a b as bs, (buildEntry s e).bytes = common ++ a :: as →
      rival.bytes = common ++ b :: bs → b.toNat < a.toNat →
      ∃ t, exec (.transmissionAttempt (some rival)) s = .next t ∧
        t.bus.activity = .receiving
          (if common = [] then .contested
            else if common.length < 4 then .opened else .headed rival.header) ∧
        (t.ctl.silenced = true ↔ common ≠ [] ∧ rival.header.sender.toNat = s.ctl.id) ∧
        (t.ctl.silenced = false → t.bus.queue = s.bus.queue) ∧
        (t.ctl.silenced = true → t.bus.queue = s.bus.queue.filter fun x => !x.isHealth) ∧
        t.bus.lastTaken = s.bus.lastTaken ∧ t.bus.lastHealthEnd = s.bus.lastHealthEnd ∧
        t.bus.slot = s.bus.slot ∧ (e = .health → t.bus.dueMark = false) ∧
        t.lanes = s.lanes ∧ t.ports = s.ports ∧ t.view = s.view ∧ t.verdicts = s.verdicts ∧
        t.classes = s.classes ∧ t.mux = s.mux) ∧
    (∀ common a b as bs, (buildEntry s e).bytes = common ++ a :: as →
      rival.bytes = common ++ b :: bs → a.toNat < b.toNat →
      exec (.transmissionAttempt (some rival)) s = exec (.transmissionAttempt none) s) ∧
    (rival = buildEntry s e →
      exec (.transmissionAttempt (some rival)) s =
        .next { s with
          bus := { s.bus with
            activity := .sending e (buildEntry s e), quiet := 0
            wires := { foreign := true, clockRuns := true, dataLow := false } } })

/-- TRANSMISSION_COMPLETE: a HEALTH leaves the queue, a new one joins its tail if the HEALTH-due mark is set, the
record of its take slot and the time of its end are kept, and the beacon timer is restarted; a DIGEST only leaves
the queue (R55, R56, R77, R162; the record of the lines is the model's, notes/assumptions/30.md). -/
def Obligations.TransmissionCompletes : Prop :=
  ∀ (s : State) (taken : Bool) (n : Notice), awake s = true →
    (s.bus.activity = .sending .health n →
      exec (.transmissionComplete taken) s =
        .next { s with
          bus :=
            { s.bus with
              activity := .idle, quiet := 0, sinceEvent := 0, wires := quietWires
              dueMark := false, lastTaken := taken,
              lastHealthEnd := some { time := s.ctl.time, micros := s.ctl.micros },
              queue := s.bus.queue.filter (fun e => !e.isHealth) ++
                (if s.bus.dueMark then [.health] else []) }
          beacon := .running (afterMs s ((settings s).beacon * 10)) }) ∧
    (∀ target body, s.bus.activity = .sending (.digest target body) n →
      exec (.transmissionComplete taken) s =
        .next { s with
          bus :=
            { s.bus with
              activity := .idle, quiet := 0, sinceEvent := 0, wires := quietWires
              queue := s.bus.queue.filter TxEntry.isHealth } })

/-- RESTART_NOTICE: a RESTART to the own id or to all stations that finds the receive slot empty begins a warm reset,
with every block at its warm-reset values; one to another station passes without effect; and one that finds the slot
occupied with HOLD_EN off is lost, with the overrun flag set (R18, R36, R52, R60, R64, R82, R93, R107, R126, R145,
R157, R163; the records of the drive in the take slot and of the lines are the model's, notes/assumptions/21.md,
notes/assumptions/30.md, and so is the state of the steering port before the end of the reset,
notes/assumptions/38.md). -/
def Obligations.RestartBeginsWarmReset : Prop :=
  ∀ (s : State) (n : Notice), Arrives s n .restart → n.header.sender.toNat ≠ s.ctl.id →
    (s.bus.slot = none → n.header.target.toNat = s.ctl.id ∨ n.header.target.toNat = 31 →
      ∃ t, exec (.restartNotice n .whole) s = .next t ∧
        WarmResetOf { s with bus := { s.bus with wires := quietWires } } t) ∧
    (n.header.target.toNat ≠ s.ctl.id → n.header.target.toNat ≠ 31 →
      exec (.restartNotice n .whole) s = .next { s with bus := passed s.bus false }) ∧
    (s.bus.slot.isSome = true → holdEnabled s = false →
      n.header.target.toNat = s.ctl.id ∨ n.header.target.toNat = 31 →
      exec (.restartNotice n .whole) s =
        .next { s with bus := { passed s.bus false with overrun := true } })

/-- CONFIG_NOTICE taken: a CONFIG to the own id or to all stations, with content that passes, takes effect in
UNCONFIGURED: it is in the store, the station is JOINING with its window started and CONFIG_WAIT stopped, absent ports
are ABSENT and their lanes absent, of the others those whose signal and hello-seen condition are met enter PROBATION
and the rest stay DOWN, the classes take their lists, every mapped switch is LOST, the beacon is started and a HEALTH
queued unless the station is silenced, and a changed own opinion requests a recompute (R2, R17, R21, R22, R33, R49,
R77, R79, R125, R151, R153; the records of the drive in the take slot and of the lines are the model's,
notes/assumptions/21.md, notes/assumptions/30.md, and so is the supervision field of an absent lane,
notes/assumptions/22.md; that the hello timer drops the microseconds is deduced, notes/assumptions/32.md). -/
def Obligations.ConfigTakesEffect : Prop :=
  ∀ (s : State) (n : Notice) (g : Settings), Arrives s n .config →
    n.header.sender.toNat ≠ s.ctl.id →
    n.header.target.toNat = s.ctl.id ∨ n.header.target.toNat = 31 →
    s.bus.slot = none → s.ctl.state = .unconfigured → PortsLaw s → SteerLaw s →
    configRefused n.body = false → g = readConfig n.body →
    ∃ t, exec (.configNotice n .whole) s = .next t ∧
      t.ctl = { s.ctl with
        config := some g, state := .joining, configWait := .stopped,
        joinTime := .running (afterMs s (g.joinTime * 100)) } ∧
      (∀ p, (g.portMap.get p).absent = true →
        t.ports.get p =
          { state := .absent, cause := .start, score := 0, cleanEpochs := 0, upSince := none,
            revertTimer := none, revertReady := false } ∧
        t.lanes.get p =
          { present := false, supervised := (g.portMap.get p).supervised, level := none, errors := 0,
            peak := 0, helloTimer := .stopped, helloSeen := false }) ∧
      (∀ p, (g.portMap.get p).absent = false →
        (t.ports.get p).state = reportedState (s.lanes.get p) (g.portMap.get p).supervised ∧
        (t.ports.get p).cause = (s.ports.get p).cause ∧ (t.ports.get p).score = 1023 ∧
        (t.lanes.get p).helloTimer =
          (if (t.ports.get p).state = .probation ∧ (g.portMap.get p).supervised = true then
            .running (countedMs s (g.helloLimit * 10))
          else (s.lanes.get p).helloTimer) ∧
        (t.lanes.get p).present = (s.lanes.get p).present ∧
        (t.lanes.get p).supervised = (g.portMap.get p).supervised ∧
        (t.lanes.get p).level = (s.lanes.get p).level ∧
        (t.lanes.get p).errors = (s.lanes.get p).errors ∧
        (t.lanes.get p).peak = (s.lanes.get p).peak) ∧
      (∀ c, (t.classes.get c).prefs = g.lists.get c ∧ (t.classes.get c).current = none ∧
        (t.classes.get c).status =
          if g.lists.get c = [] then .unused else .unplaced) ∧
      (∀ sw, t.opinions.get sw =
        if mappedPorts (some g) sw = [] then .none else .lost) ∧
      t.bus = { passed s.bus true with
        queue := if s.ctl.silenced = false ∧ TxEntry.health ∉ s.bus.queue then
            s.bus.queue ++ [.health]
          else s.bus.queue } ∧
      t.beacon = (if s.ctl.silenced then s.beacon
        else .running (afterMs s (g.beacon * 10))) ∧
      (t.opinions = s.opinions → t.verdicts = s.verdicts) ∧
      (t.opinions ≠ s.opinions → RecomputeRequested s t) ∧
      t.mux = s.mux ∧ t.epoch = s.epoch ∧ t.view = s.view

/-- CONFIG_NOTICE turned away: in UNCONFIGURED a CONFIG whose content fails leaves the station as it was and nothing
is reported; in JOINING or ACTIVE every CONFIG is late and sets the late-configuration flag, whatever its content;
and one that would be taken is lost, with the overrun flag set, where the hold limit has passed and the slot is
still occupied (R48, R49, R52, R149, R154; the records of the drive in the take slot and of the lines are the
model's, notes/assumptions/21.md, notes/assumptions/30.md). -/
def Obligations.ConfigTurnedAway : Prop :=
  (∀ (s : State) (n : Notice), Arrives s n .config → n.header.sender.toNat ≠ s.ctl.id →
    n.header.target.toNat = s.ctl.id ∨ n.header.target.toNat = 31 → s.bus.slot = none →
    (s.ctl.state = .unconfigured → configRefused n.body = true →
      exec (.configNotice n .whole) s = .next { s with bus := passed s.bus false }) ∧
    (s.ctl.state = .joining ∨ s.ctl.state = .active →
      exec (.configNotice n .whole) s =
        .next { s with bus := passed s.bus false, ctl := { s.ctl with lateConfig := true } })) ∧
  (∀ (s : State) (n : Notice), Resumes s n .config → n.header.sender.toNat ≠ s.ctl.id →
    n.header.target.toNat = s.ctl.id ∨ n.header.target.toNat = 31 → s.bus.slot.isSome = true →
    s.ctl.state = .unconfigured → configRefused n.body = false →
    exec (.configNotice n .whole) s =
      .next { s with bus := { passed s.bus false with overrun := true } })

/-- QUERY_NOTICE: a QUERY to the own id with no DIGEST queued is taken: the snapshot joins the queue for the sender
of the QUERY, and the peaks, the overrun flag and the late-configuration flag are cleared; with a DIGEST queued, or
to all stations, it is refused and changes nothing; and one that would be taken but finds the slot occupied with
HOLD_EN off is lost, with the overrun flag set (R8, R49, R51, R52, R53, R64, R160, R161; the records of the drive in
the take slot and of the lines are the model's, notes/assumptions/21.md, notes/assumptions/30.md). -/
def Obligations.QueryQueuesSnapshot : Prop :=
  ∀ (s : State) (n : Notice), Arrives s n .query → n.header.sender.toNat ≠ s.ctl.id →
    (s.bus.slot = none → n.header.target.toNat = s.ctl.id → (∀ e ∈ s.bus.queue, e = .health) →
      exec (.queryNotice n .whole) s =
        .next { s with
          lanes := s.lanes.map fun l => { l with peak := 0 }
          bus :=
            { passed s.bus true with
              queue := s.bus.queue ++ [.digest n.header.sender (digestBody s)], overrun := false }
          ctl := { s.ctl with lateConfig := false } }) ∧
    (s.bus.slot = none → (∃ target body, TxEntry.digest target body ∈ s.bus.queue) ∨
        n.header.target.toNat ≠ s.ctl.id →
      exec (.queryNotice n .whole) s = .next { s with bus := passed s.bus false }) ∧
    (s.bus.slot.isSome = true → holdEnabled s = false → n.header.target.toNat = s.ctl.id →
      (∀ e ∈ s.bus.queue, e = .health) →
      exec (.queryNotice n .whole) s =
        .next { s with bus := { passed s.bus false with overrun := true } })

/-- The body of a DIGEST has 37 bytes, and the station state, the station time, each port's state, cause, score and
peak, each class's status and current port, the length of the move queue, the steering port state and the number of
counted peers are read back from it at the places and by the codes the layout gives (R72 to R75, R160; the station
code in HOLD and in a warm reset is the model's, notes/assumptions/29.md). -/
def Obligations.DigestReadsBackAsBuilt : Prop :=
  ∀ (s : State) (body : List Byte), PortsLaw s → s.mux.queue.length ≤ 8 →
    s.view.entries.length ≤ 29 → body = digestBody s →
    body.length = 37 ∧
    byteAt body 0 / 64 = s.ctl.state.code ∧
    byteAt body 0 / 32 % 2 = flagBit s.ctl.silenced ∧
    byteAt body 0 / 16 % 2 = flagBit s.bus.overrun ∧
    byteAt body 0 / 8 % 2 = flagBit s.ctl.lateConfig ∧
    byteAt body 0 / 4 % 2 = flagBit s.ctl.defaulted ∧
    byteAt body 0 / 2 % 2 = flagBit s.bus.lastTaken ∧ byteAt body 0 % 2 = 0 ∧
    ((byteAt body 1 * 256 + byteAt body 2) * 256 + byteAt body 3) * 256 + byteAt body 4 =
      s.ctl.time.toNat ∧
    (∀ p : PortId,
      byteAt body (5 + 5 * p.val) = (s.ports.get p).state.code * 16 + (s.ports.get p).cause.code ∧
      byteAt body (6 + 5 * p.val) * 256 + byteAt body (7 + 5 * p.val) = (s.ports.get p).score ∧
      byteAt body (8 + 5 * p.val) * 256 + byteAt body (9 + 5 * p.val) = (s.lanes.get p).peak) ∧
    (∀ sw : SwitchId, pairField (byteAt body (25 + sw.val / 4)) (sw.val % 4) = verdictCode s sw) ∧
    (∀ c : ClassId, byteAt body (27 + c.val) =
      (s.classes.get c).status.code * 32 + currentCode (s.classes.get c).current * 4) ∧
    byteAt body 35 = s.mux.queue.length * 16 + s.mux.port.code ∧
    byteAt body 36 = countedPeers s.view.entries ∧
    (StationState.unconfigured.code = 0 ∧ StationState.joining.code = 1 ∧
      StationState.active.code = 2 ∧ flagBit false = 0 ∧ flagBit true = 1) ∧
    (PortState.absent.code = 0 ∧ PortState.down.code = 1 ∧ PortState.probation.code = 2 ∧
      PortState.up.code = 3 ∧ PortState.suspect.code = 4) ∧
    (Cause.start.code = 0 ∧ Cause.signal.code = 1 ∧ Cause.silent.code = 2 ∧
      Cause.errors.code = 3) ∧
    (∀ sw, ∀ v, v = (s.verdicts.switches.get sw).verdict →
      (v = .clear → verdictCode s sw = 0) ∧ (v = .doubted → verdictCode s sw = 1) ∧
      (v = .condemned → verdictCode s sw = 2)) ∧
    (ClassStatus.unused.code = 0 ∧ ClassStatus.unplaced.code = 1 ∧ ClassStatus.placed.code = 2 ∧
      ClassStatus.moving.code = 3 ∧ ClassStatus.stranded.code = 4) ∧
    (currentCode none = 4 ∧ ∀ p : PortId, currentCode (some p) = p.val) ∧
    (SteerState.ready.code = 0 ∧ SteerState.await.code = 1 ∧ SteerState.cancelling.code = 2 ∧
      SteerState.stalled.code = 3 ∧ SteerState.offline.code = 4)

/-- HEALTH_NOTICE: a HEALTH of a peer to all stations is stored in an empty receive slot; with the slot occupied it
is held at its hold slot when HOLD_EN is on, and is lost with the overrun flag set when HOLD_EN is off. After a hold
the rest of it is stored if the slot has emptied, and lost with the overrun flag set if it has not. Every relevant
notice is held so, whatever its kind; and a notice of any kind does the same part by part as whole (R38, R43, R44,
R48, R51, R52; parts of a notice as commands: notes/assumptions/7.md; the records of the drive in the take slot and
of the lines are the model's, notes/assumptions/21.md, notes/assumptions/30.md). -/
def Obligations.HealthIsStoredHeldOrLost : Prop :=
  (∀ (s : State) (n : Notice), Arrives s n .health → n.header.target.toNat = 31 →
    isStationId n.header.sender.toNat = true → n.header.sender.toNat ≠ s.ctl.id →
    (s.bus.slot = none →
      exec (.healthNotice n .whole) s =
        .next { s with bus := { passed s.bus true with slot := some n } }) ∧
    (s.bus.slot.isSome = true → holdEnabled s = true →
      exec (.healthNotice n .whole) s =
        .next { s with
          bus := { s.bus with
            activity := .receiving (.headed n.header), quiet := 0
            wires := { foreign := false, clockRuns := true, dataLow := false }
            hold := some 0 } }) ∧
    (s.bus.slot.isSome = true → holdEnabled s = false →
      exec (.healthNotice n .whole) s =
        .next { s with bus := { passed s.bus false with overrun := true } })) ∧
  (∀ (s : State) (n : Notice), Resumes s n .health → n.header.target.toNat = 31 →
    isStationId n.header.sender.toNat = true → n.header.sender.toNat ≠ s.ctl.id →
    (s.bus.slot = none →
      exec (.healthNotice n .whole) s =
        .next { s with bus := { passed s.bus true with slot := some n } }) ∧
    (s.bus.slot.isSome = true →
      exec (.healthNotice n .whole) s =
        .next { s with bus := { passed s.bus false with overrun := true } })) ∧
  (∀ (s : State) (n : Notice) (k : NoticeKind) (row : NoticeSpan → Instr), Arrives s n k →
    IsNoticeRow n row → relevant s.ctl.id n.header = true → s.bus.slot.isSome = true →
    holdEnabled s = true →
    exec (row .whole) s =
      .next { s with
        bus := { s.bus with
          activity := .receiving (.headed n.header), quiet := 0
          wires := { foreign := false, clockRuns := true, dataLow := false }
          hold := some 0 } }) ∧
  (∀ (s : State) (n : Notice) (row : NoticeSpan → Instr), awake s = true →
    s.bus.activity = .idle → s.bus.wires.foreign = false → IsNoticeRow n row →
    ∃ t, exec (row .whole) s = .next t ∧ PartByPart row s t)

/-- DIGEST_NOTICE: a DIGEST of another station passes without effect, and one that bears the own id as its sender
silences the station: the beacon timer stops and the HEALTH entry leaves the queue. A notice of any other kind that
bears the own id reveals the clash as well, a second clash changes nothing, and a station that lost in the kind byte
is silenced at the sender byte exactly when that byte is its own id (R43, R48, R57 to R59, R81, R156; parts of a
notice as commands: notes/assumptions/7.md; the records of the drive in the take slot and of the lines are the
model's, notes/assumptions/21.md, notes/assumptions/30.md). -/
def Obligations.DigestPassesOrRevealsClash : Prop :=
  (∀ (s : State) (n : Notice), Arrives s n .digest → n.header.sender.toNat ≠ s.ctl.id →
    exec (.digestNotice n .whole) s = .next { s with bus := passed s.bus false }) ∧
  (∀ (s : State) (n : Notice) (k : NoticeKind) (row : NoticeSpan → Instr), Arrives s n k →
    IsNoticeRow n row → n.header.sender.toNat = s.ctl.id →
    k = .digest ∨ k = .health ∨ s.bus.slot = none ∨ holdEnabled s = false →
    (s.ctl.silenced = false →
      exec (row .whole) s =
        .next { s with
          bus := { passed s.bus false with queue := s.bus.queue.filter fun e => !e.isHealth }
          beacon := .stopped
          ctl := { s.ctl with silenced := true } }) ∧
    (s.ctl.silenced = true → exec (row .whole) s = .next { s with bus := passed s.bus false })) ∧
  (∀ (s : State) (n : Notice) (row : NoticeSpan → Instr), awake s = true → IsNoticeRow n row →
    s.bus.activity = .receiving .contested → s.ctl.silenced = false →
    (n.header.sender.toNat ≠ s.ctl.id →
      exec (row .sender) s =
        .next { s with
          bus := { s.bus with
            activity := .receiving .opened
            wires := { s.bus.wires with
              clockRuns := true, dataLow := decide (n.header.sender.toNat % 2 = 0) } } }) ∧
    (n.header.sender.toNat = s.ctl.id →
      exec (row .sender) s =
        .next { s with
          bus := { s.bus with
            activity := .receiving .opened
            wires := { s.bus.wires with
              clockRuns := true, dataLow := decide (n.header.sender.toNat % 2 = 0) }
            queue := s.bus.queue.filter fun e => !e.isHealth }
          beacon := .stopped
          ctl := { s.ctl with silenced := true } }))

/-- DISCARDED_NOTICE: a notice of wrong form, or one of right form that is not held and whose check code is wrong or
that its stop mark truncates, is discarded: the station follows it to its end and is IDLE again, and nothing else
changes. An IDLE station follows every notice from its start mark, and one whose start mark it missed it does not
join: the bus-free time begins anew, and the lines are left as the part leaves them (R39, R43, R46 to R48, R60; the
record of the drive in the take slot is the model's, notes/assumptions/21.md, and so is how a notice that is not
followed shows, notes/assumptions/30.md). -/
def Obligations.FaultyNoticeIsDiscarded : Prop :=
  ∀ (s : State) (n : Notice), awake s = true → s.bus.activity = .idle →
    (s.bus.wires.foreign = false →
      n.header.kindInForm = none ∨
        (n.complete = true ∧ n.checkRight = false ∧ s.bus.slot = none) →
      exec (.discardedNotice n .whole) s = .next { s with bus := passed s.bus false }) ∧
    (s.bus.wires.foreign = false → n.header.kindInForm.isSome = true → n.complete = false →
      s.bus.slot = none →
      exec (.discardedNotice n .whole) s =
        .next { s with bus := passed s.bus s.bus.takeDriven }) ∧
    (∀ row, IsNoticeRow n row →
      exec (row .startMark) s =
        .next { s with
          bus := { s.bus with
            activity := .receiving .opened, quiet := 0
            wires := { foreign := false, clockRuns := false, dataLow := true } } } ∧
      (s.bus.wires.foreign = true → ∀ span, span ≠ .startMark →
        exec (row span) s =
          .next { s with
            bus := { s.bus with
              quiet := 0
              sinceEvent := if span = .whole ∨ span = .stopMark then 0 else s.bus.sinceEvent
              wires := spanWires n span } })) ∧
    (∀ w, w = spanWires n .startMark → w.foreign = true ∧ w.clockRuns = false ∧ w.dataLow = true) ∧
    (∀ w, w = spanWires n .sender → w.foreign = true ∧ w.clockRuns = true ∧
      (w.dataLow = true ↔ n.header.sender.toNat % 2 = 0)) ∧
    (∀ w, w = spanWires n .header → w.foreign = true ∧ w.clockRuns = true ∧ w.dataLow = false) ∧
    (∀ w, w = spanWires n .body → w.foreign = true ∧ w.clockRuns = true ∧
      (w.dataLow = true ↔ ∃ c, n.check = some c ∧ c.toNat % 2 = 0)) ∧
    (∀ w, w = spanWires n .takeSlot → w.foreign = true ∧ w.clockRuns = true ∧ w.dataLow = true) ∧
    (∀ w high, w = spanWires n (.clocks high) → w.foreign = true ∧ w.clockRuns = false ∧
      w.dataLow = !high) ∧
    (∀ w, w = spanWires n .whole ∨ w = spanWires n .stopMark →
      w.foreign = false ∧ w.clockRuns = false ∧ w.dataLow = false)

/-- TRUNCATED_NOTICE, MARK_INSIDE_NOTICE and HOLD_LIMIT_EXPIRY: a station that is RECEIVING becomes IDLE at a
truncation or a stop mark, and opens a new notice at a start mark; the truncated notice is not taken and its hold is
released; after a high clock the bus-free timer has run out where BDT is high, and does not run while BDT is low. A
start mark inside its own notice makes a SENDING station RECEIVING with its entry kept, and makes an IDLE station
RECEIVING; a stop mark restarts the bus-free time of an IDLE one. The hold limit, once 2 ms of a hold have passed,
ends it and keeps the notice being followed (R39, R41, R43, R44, R47, R55; that a taken notice leaves the slot is
deduced, notes/assumptions/12.md; how the lines and a notice on them show, with the field foreign set and cleared,
is the model's, notes/assumptions/30.md; so is that a start mark inside the own notice leaves a clash to the end of
the new notice, and not to its sender byte, notes/assumptions/35.md). -/
def Obligations.TruncationAndHoldLimitReleaseNotice : Prop :=
  ∀ s : State, awake s = true →
    (∀ stage slot, s.bus.activity = .receiving stage →
      ((∃ h, stage = .taking h true) → slot = none) →
      ((∀ h, stage ≠ .taking h true) → slot = s.bus.slot) →
      exec .truncatedNotice s =
        .next { s with
          bus := { s.bus with
            activity := .idle, quiet := if s.bus.wires.dataLow then 0 else 50
            sinceEvent := 0, hold := none, slot := slot
            wires :=
              { foreign := false, clockRuns := false, dataLow := s.bus.wires.dataLow } } } ∧
      exec (.markInsideNotice .stop) s =
        .next { s with
          bus := { s.bus with
            activity := .idle, quiet := 0, sinceEvent := 0, hold := none, slot := slot
            wires := { foreign := false, clockRuns := false, dataLow := false } } } ∧
      exec (.markInsideNotice .start) s =
        .next { s with
          bus := { s.bus with
            activity := .receiving .opened, quiet := 0, hold := none, slot := slot
            wires := { foreign := false, clockRuns := false, dataLow := true } } }) ∧
    (∀ e n, s.bus.activity = .sending e n →
      exec (.markInsideNotice .start) s =
        .next { s with
          bus := { s.bus with
            activity := .receiving .opened
            wires := { foreign := false, clockRuns := true, dataLow := true }
            dueMark := if e = .health then false else s.bus.dueMark } }) ∧
    (s.bus.activity = .idle →
      exec (.markInsideNotice .start) s =
        .next { s with
          bus := { s.bus with
            activity := .receiving .opened, quiet := 0
            wires := { foreign := false, clockRuns := false, dataLow := true } } } ∧
      exec (.markInsideNotice .stop) s =
        .next { s with
          bus := { s.bus with
            quiet := 0, sinceEvent := 0
            wires := { foreign := false, clockRuns := false, dataLow := false } } } ∧
      exec .truncatedNotice s =
        .next { s with
          bus := { s.bus with
            quiet := if s.bus.wires.dataLow then 0 else 50
            wires :=
              { foreign := false, clockRuns := false, dataLow := s.bus.wires.dataLow } } }) ∧
    (∀ age, s.bus.hold = some age →
      (2000 ≤ age →
        exec .holdLimitExpiry s = .next { s with bus := { s.bus with hold := none } }) ∧
      (age < 2000 → exec .holdLimitExpiry s = .next s))

/-! ## Health reporting and the peer view -/

/-- BEACON_EXPIRY: once the beacon timer has run out, under the gate of R76, a HEALTH entry joins the queue if it
holds none, the HEALTH-due mark is set if it is being sent, and nothing is added if it waits; the timer stays stopped.
Where the timer was restarted and has not run out, no expiry takes place (R53, R55, R76, R77, R80). -/
def Obligations.BeaconExpiryMakesHealthDue : Prop :=
  ∀ (s : State) (due : Instant), steers s = true → s.ctl.silenced = false →
    s.beacon = .running due →
    (¬ RanOut s due → exec .beaconExpiry s = .next s) ∧
    (RanOut s due →
      ((∃ n, s.bus.activity = .sending .health n) →
        exec .beaconExpiry s =
          .next { s with beacon := .stopped, bus := { s.bus with dueMark := true } }) ∧
      ((∀ n, s.bus.activity ≠ .sending .health n) →
        (TxEntry.health ∈ s.bus.queue →
          exec .beaconExpiry s = .next { s with beacon := .stopped }) ∧
        (TxEntry.health ∉ s.bus.queue →
          exec .beaconExpiry s =
            .next { s with
              beacon := .stopped, bus := { s.bus with queue := s.bus.queue ++ [.health] } })))

/-- ABSORPTION: with no recompute in progress, the HEALTH in the slot becomes the entry of its sender, FRESH with both
timers started and last heard now; every other entry is kept; the slot is emptied and a hold ends; and a recompute
starts on the table that holds it. It is absorbed whether the station is IDLE, SENDING or RECEIVING, once its own take
slot has ended, and waits while a recompute is in progress (R44, R51, R67, R83 to R86, R95, R96; that the timers of a
peer run in whole milliseconds is deduced, notes/assumptions/32.md). -/
def Obligations.AbsorptionStoresPeer : Prop :=
  ∀ (s : State) (n : Notice), awake s = true → s.bus.slot = some n →
    readKind n.header.kind = some .health →
    (∀ h, s.bus.activity ≠ .receiving (.taking h true)) →
    (s.verdicts.activity = .idle →
      ∃ t, exec .absorption s = .next t ∧
        findPeer t.view.entries n.header.sender.toNat =
          some
            { id := n.header.sender.toNat, sender := readSender n.body,
              opinions := readOpinions n.body, lastHeard := s.ctl.time, status := .fresh,
              freshTimer := .running (countedMs s ((settings s).fresh * 10)),
              expiryTimer := .running (countedMs s ((settings s).expire * 100)) } ∧
        (∀ id, id ≠ n.header.sender.toNat →
          findPeer t.view.entries id = findPeer s.view.entries id) ∧
        t.bus = { s.bus with slot := none, hold := none } ∧
        RecomputeRequested s t ∧
        (∃ r, t.verdicts.activity = .recomputing r ∧ r.elapsed = 0) ∧
        (∀ sw,
          (t.verdicts.switches.get sw).verdict = (s.verdicts.switches.get sw).verdict ∧
          (t.verdicts.switches.get sw).opinionRead = s.opinions.get sw ∧
          (t.verdicts.switches.get sw).lastA = accusers t.view.entries sw ∧
          (t.verdicts.switches.get sw).lastK = clearers t.view.entries sw) ∧
        t.lanes = s.lanes ∧ t.ports = s.ports ∧ t.opinions = s.opinions ∧ t.beacon = s.beacon ∧
        t.classes = s.classes ∧ t.mux = s.mux ∧ t.ctl = s.ctl) ∧
    (s.verdicts.activity ≠ .idle → exec .absorption s = .next s)

/-- FRESHNESS_EXPIRY and EXPIRY_TIMER_EXPIRY: once its timer has run out, the first makes the entry STALE, with its
sender state, opinions and last-heard kept and its expiry timer running, and a recompute starts; the second removes
it, and a recompute starts exactly when it was FRESH. Every other entry is kept. During a recompute the expiry is held
and no entry changes. Where the timer was restarted and has not run out, no expiry takes place (R87, R88, R90, R91,
R95). -/
def Obligations.PeerTimersAgeAndRemoveEntries : Prop :=
  ∀ (s : State) (e : PeerEntry) (due : Instant), awake s = true →
    findPeer s.view.entries e.id = some e →
    (e.freshTimer = .running due →
      (¬ RanOut s due → exec (.freshnessExpiry e.id) s = .next s) ∧
      (RanOut s due →
        (s.verdicts.activity = .idle →
          ∃ t, exec (.freshnessExpiry e.id) s = .next t ∧
            findPeer t.view.entries e.id = some { e with status := .stale, freshTimer := .expired } ∧
            (∀ id, id ≠ e.id → findPeer t.view.entries id = findPeer s.view.entries id) ∧
            t.verdicts.activity ≠ .idle ∧ RecomputeRequested s t ∧
            t.lanes = s.lanes ∧ t.ports = s.ports ∧ t.bus = s.bus ∧ t.classes = s.classes ∧
            t.mux = s.mux ∧ t.ctl = s.ctl) ∧
        (s.verdicts.activity ≠ .idle →
          (HeldExpiry.freshness e.id ∉ s.view.held →
            exec (.freshnessExpiry e.id) s =
              .next { s with
                view := { s.view with held := s.view.held ++ [.freshness e.id] } }) ∧
          (HeldExpiry.freshness e.id ∈ s.view.held →
            exec (.freshnessExpiry e.id) s = .next s)))) ∧
    (e.expiryTimer = .running due →
      (¬ RanOut s due → exec (.expiryTimerExpiry e.id) s = .next s) ∧
      (RanOut s due →
        (s.verdicts.activity = .idle →
          ∃ t, exec (.expiryTimerExpiry e.id) s = .next t ∧
            findPeer t.view.entries e.id = none ∧
            (∀ id, id ≠ e.id → findPeer t.view.entries id = findPeer s.view.entries id) ∧
            (t.verdicts.activity = .idle ↔ e.status = .stale) ∧
            (e.status = .fresh → RecomputeRequested s t) ∧
            t.lanes = s.lanes ∧ t.ports = s.ports ∧ t.bus = s.bus ∧ t.classes = s.classes ∧
            t.mux = s.mux ∧ t.ctl = s.ctl) ∧
        (s.verdicts.activity ≠ .idle →
          (HeldExpiry.removal e.id ∉ s.view.held →
            exec (.expiryTimerExpiry e.id) s =
              .next { s with view := { s.view with held := s.view.held ++ [.removal e.id] } }) ∧
          (HeldExpiry.removal e.id ∈ s.view.held →
            exec (.expiryTimerExpiry e.id) s = .next s))))

/-! ## Verdicts -/

/-- The condemn condition of a switch holds when one or more of its three clauses holds over the values the recompute
read at its start: last A is Q_COND or more; the opinion read is LOST and last A is 1 or more; or the opinion read is
LOST, two or more ports are mapped and last K is less than Q_CLEAR. An opinion read other than LOST can satisfy the
first alone (R100). -/
def Obligations.CondemnConditionHasThreeClauses : Prop :=
  ∀ (r : Recompute) (mapped : Nat) (w : SwitchRecord),
    (condemnCondition r mapped w = true ↔
      r.qCond ≤ w.lastA ∨ (w.opinionRead = .lost ∧ 1 ≤ w.lastA) ∨
        (w.opinionRead = .lost ∧ 2 ≤ mapped ∧ w.lastK < r.qClear)) ∧
    (w.opinionRead ≠ .lost → (condemnCondition r mapped w = true ↔ r.qCond ≤ w.lastA)) ∧
    (mapped ≤ 1 → ∀ k, condemnCondition r mapped { w with lastK := k } = condemnCondition r mapped w)

/-- RECOMPUTE_COMPLETION: for every switch the condition flag becomes whether its condition holds; the verdict becomes
CONDEMNED if it holds, stays CONDEMNED while a hold begins or goes on, and otherwise becomes DOUBTED or CLEAR by
what was read; the hold timer starts, runs on or stops as R101 and R102 say. The classes are evaluated, once and with
the issue test, exactly when a verdict changed (R98, R100 to R102, R114, R135; that CONDEMN_HOLD is the one in effect
at the completion is the model's, notes/assumptions/33.md). -/
def Obligations.CompletionSetsVerdicts : Prop :=
  ∀ (s : State) (r : Recompute), awake s = true → s.verdicts.activity = .recomputing r →
    ∃ t, exec .recomputeCompletion s = .next t ∧
      ((∃ sw, (t.verdicts.switches.get sw).verdict ≠ (s.verdicts.switches.get sw).verdict) →
        t.classes = (issueTest (evaluateAll { s with verdicts := t.verdicts })).classes ∧
        t.mux = (issueTest (evaluateAll { s with verdicts := t.verdicts })).mux) ∧
      ((∀ sw, (t.verdicts.switches.get sw).verdict = (s.verdicts.switches.get sw).verdict) →
        t.classes = s.classes ∧ t.mux = s.mux) ∧
      t.lanes = s.lanes ∧ t.ports = s.ports ∧ t.opinions = s.opinions ∧ t.ctl = s.ctl ∧
      ∀ sw, ∀ w, w = s.verdicts.switches.get sw →
        ∀ w', w' = t.verdicts.switches.get sw →
        let lower : Verdict :=
          if 1 ≤ w.lastA ∨ w.opinionRead = .impaired ∨ w.opinionRead = .lost then .doubted
          else .clear
        (condemnCondition r (r.mapped.get sw) w = true →
          w'.condition = true ∧ w'.verdict = .condemned ∧ w'.holdTimer = .stopped) ∧
        (condemnCondition r (r.mapped.get sw) w = false →
          w'.condition = false ∧
          (w.verdict ≠ .condemned → w'.verdict = lower ∧ w'.holdTimer = .stopped) ∧
          (w.verdict = .condemned →
            (w.holdTimer = .stopped → (settings s).condemnHold = 0 →
              w'.verdict = lower ∧ w'.holdTimer = .stopped) ∧
            (w.holdTimer = .stopped → 0 < (settings s).condemnHold →
              w'.verdict = .condemned ∧
              w'.holdTimer =
                .running (afterMs s ((settings s).condemnHold * 100))) ∧
            (∀ due, w.holdTimer = .running due →
              w'.verdict = .condemned ∧ w'.holdTimer = .running due) ∧
            (w.holdTimer = .expired → w'.verdict = lower ∧ w'.holdTimer = .stopped)))

/-- RECOMPUTE_COMPLETION: a HEALTH that waited in the slot is absorbed first, then the held expiries take effect, but
for those of the entry just absorbed, which ends FRESH; every other entry is kept. One further recompute starts if the
again flag was set, a HEALTH was absorbed, or a held expiry made a request; with none of them the unit is IDLE
afterwards; the again flag is clear and nothing is held any more (R85, R87, R88, R90, R91, R98; the order of the held
changes is the model's, notes/assumptions/14.md; that the timers of a peer run in whole milliseconds is deduced,
notes/assumptions/32.md). -/
def Obligations.CompletionStartsFurtherRecompute : Prop :=
  ∀ (s : State) (r : Recompute), awake s = true → s.verdicts.activity = .recomputing r →
    ∃ t, exec .recomputeCompletion s = .next t ∧ t.verdicts.again = false ∧ t.view.held = [] ∧
      (s.verdicts.again = true ∨ (healthWaiting s).isSome = true →
        t.verdicts.activity ≠ .idle) ∧
      (s.verdicts.again = false → healthWaiting s = none → s.view.held = [] →
        t.verdicts.activity = .idle ∧ t.view = s.view) ∧
      (∀ n, healthWaiting s = some n →
        t.bus = { s.bus with slot := none, hold := none } ∧
        findPeer t.view.entries n.header.sender.toNat =
          some
            { id := n.header.sender.toNat, sender := readSender n.body,
              opinions := readOpinions n.body, lastHeard := s.ctl.time, status := .fresh,
              freshTimer := .running (countedMs s ((settings s).fresh * 10)),
              expiryTimer :=
                .running (countedMs s ((settings s).expire * 100)) }) ∧
      (healthWaiting s = none → t.bus = s.bus) ∧
      (∀ id, (∀ n, healthWaiting s = some n → n.header.sender.toNat ≠ id) →
        (HeldExpiry.freshness id ∉ s.view.held → HeldExpiry.removal id ∉ s.view.held →
          findPeer t.view.entries id = findPeer s.view.entries id) ∧
        (∀ e due, findPeer s.view.entries id = some e →
          (HeldExpiry.removal id ∈ s.view.held → e.expiryTimer = .running due →
            findPeer t.view.entries id = none ∧
            (e.status = .fresh → t.verdicts.activity ≠ .idle)) ∧
          (HeldExpiry.freshness id ∈ s.view.held → HeldExpiry.removal id ∉ s.view.held →
            e.freshTimer = .running due →
            findPeer t.view.entries id = some { e with status := .stale, freshTimer := .expired } ∧
            t.verdicts.activity ≠ .idle))) ∧
      (∀ e due, s.verdicts.again = false → healthWaiting s = none →
        s.view.held = [.removal e.id] → findPeer s.view.entries e.id = some e →
        e.expiryTimer = .running due → e.status = .stale → t.verdicts.activity = .idle)

/-- CONDEMN_HOLD_EXPIRY: once the hold timer of a switch has run out, it is expired, the verdict stays as it is, and a
recompute is requested: it starts at once, or the again flag of the one in progress is set. Before the timer has run out
nothing happens (R95, R97, R103). -/
def Obligations.CondemnHoldExpiryRequestsRecompute : Prop :=
  ∀ (s : State) (sw : SwitchId) (due : Instant), awake s = true →
    (s.verdicts.switches.get sw).holdTimer = .running due →
    (¬ RanOut s due → exec (.condemnHoldExpiry sw) s = .next s) ∧
    (RanOut s due →
      ∃ t, exec (.condemnHoldExpiry sw) s = .next t ∧
        (t.verdicts.switches.get sw).holdTimer = .expired ∧
        (∀ x, (t.verdicts.switches.get x).verdict = (s.verdicts.switches.get x).verdict) ∧
        (∀ x, x ≠ sw →
          (t.verdicts.switches.get x).holdTimer = (s.verdicts.switches.get x).holdTimer) ∧
        (s.verdicts.activity = .idle → t.verdicts.activity ≠ .idle) ∧
        (∀ r, s.verdicts.activity = .recomputing r →
          t.verdicts.activity = .recomputing r ∧ t.verdicts.again = true) ∧
        RecomputeRequested
          (s.setSwitch sw { s.verdicts.switches.get sw with holdTimer := .expired }) t ∧
        t.lanes = s.lanes ∧ t.ports = s.ports ∧ t.bus = s.bus ∧ t.view = s.view ∧
        t.classes = s.classes ∧ t.mux = s.mux ∧ t.ctl = s.ctl)

/-! ## Classes, the move queue and the steering port -/

/-- The best port of a class is the first port in list order among the ports of the lowest tier in which the class has
a usable port; with no usable port in any tier it is none. A port is usable for a class if it is UP or SUSPECT and not
in its barred set: in tier 1 if it is UP and in tier 2 if it is SUSPECT, where the verdict on its switch is not
CONDEMNED, and in tier 3 where it is (R112, R113). -/
def Obligations.BestPortIsFirstOfLowestTier : Prop :=
  ∀ (s : State) (c : ClassRecord),
    (∀ (p : PortId) (v : Verdict),
      v = (s.verdicts.switches.get ((settings s).portMap.get p).switch).verdict →
      (portTier s c p = none ↔ (c.barred.get p).isSome = true ∨
        ((s.ports.get p).state ≠ .up ∧ (s.ports.get p).state ≠ .suspect)) ∧
      (c.barred.get p = none →
        ((s.ports.get p).state = .up → v ≠ .condemned → portTier s c p = some 1) ∧
        ((s.ports.get p).state = .suspect → v ≠ .condemned → portTier s c p = some 2) ∧
        ((s.ports.get p).state = .up ∨ (s.ports.get p).state = .suspect → v = .condemned →
          portTier s c p = some 3))) ∧
    (bestPort s c = none ↔ ∀ p ∈ c.prefs, portTier s c p = none) ∧
    (∀ b, bestPort s c = some b →
      ∃ front back tier, c.prefs = front ++ b :: back ∧ portTier s c b = some tier ∧
        (∀ p ∈ c.prefs, ∀ other, portTier s c p = some other → tier ≤ other) ∧
        (∀ p ∈ front, portTier s c p ≠ some tier))

/-- An evaluation in ACTIVE, for a class in use that is not MOVING: with no usable port it is STRANDED with no queue
entry; without a current port it is UNPLACED and wants a PLACE to the best port; on its best port it is PLACED with no
entry; else it is PLACED and wants an EVACUATE from an unusable port, a SHED to a better tier, or a REVERT within its
tier if REVERT_HOLD is on and the port is revert-ready, and otherwise stays with no entry. In JOINING it does not act
on an EVACUATE, SHED or REVERT, and leaves the status of a class with no usable port. A wanted move makes an entry, or
changes the one the class has; no entry of another class changes (R115 to R120, R129 to R131; the earliest-start of an
entry changed between PLACE and another kind, which R131 says cannot arise, is the model's choice,
notes/assumptions/20.md). -/
def Obligations.EvaluationDecidesMove : Prop :=
  ∀ (s : State) (c : ClassId) (r : ClassRecord) (t : State), r = s.classes.get c → r.prefs ≠ [] →
    r.status ≠ .moving → (s.mux.queue.map QueueEntry.cls).Nodup → t = evaluate c s →
    let becomes (status : ClassStatus) : Prop :=
      t = { s with
        classes := s.classes.set c { r with status := status }
        mux := { s.mux with queue := t.mux.queue } }
    (s.ctl.state = .active →
      (bestPort s r = none → becomes .stranded ∧ WantsNone s c t.mux.queue) ∧
      (∀ b, bestPort s r = some b →
        (r.current = none → becomes .unplaced ∧ Wants s c .place b t.mux.queue) ∧
        (r.current = some b → becomes .placed ∧ WantsNone s c t.mux.queue) ∧
        (∀ cur, r.current = some cur → cur ≠ b →
          (portTier s r cur = none → becomes .placed ∧ Wants s c .evacuate b t.mux.queue) ∧
          (∀ tierCur tierB, portTier s r cur = some tierCur → portTier s r b = some tierB →
            (tierB < tierCur → becomes .placed ∧ Wants s c .shed b t.mux.queue) ∧
            (tierCur ≤ tierB → 0 < (settings s).revertHold →
              (s.ports.get b).revertReady = true →
              becomes .placed ∧ Wants s c .revert b t.mux.queue) ∧
            (tierCur ≤ tierB →
              (settings s).revertHold = 0 ∨ (s.ports.get b).revertReady = false →
              becomes .placed ∧ WantsNone s c t.mux.queue))))) ∧
    (s.ctl.state = .joining →
      (bestPort s r = none → becomes r.status ∧ WantsNone s c t.mux.queue) ∧
      (∀ b, bestPort s r = some b →
        (r.current = none → becomes .unplaced ∧ Wants s c .place b t.mux.queue) ∧
        (r.current = some b → becomes .placed ∧ WantsNone s c t.mux.queue) ∧
        (∀ cur, r.current = some cur → cur ≠ b →
          (portTier s r cur = none → t = s) ∧
          (∀ tierCur tierB, portTier s r cur = some tierCur → portTier s r b = some tierB →
            (tierB < tierCur ∨ (0 < (settings s).revertHold ∧
              (s.ports.get b).revertReady = true) → t = s) ∧
            (tierCur ≤ tierB →
              (settings s).revertHold = 0 ∨ (s.ports.get b).revertReady = false →
              becomes .placed ∧ WantsNone s c t.mux.queue)))))

/-- BACKOFF_EXPIRY: once the backoff timer of a port has run out, the port leaves the barred set of the class, the
class is evaluated and the issue test is made; no other barred set, list or current port changes. Before the timer has
run out nothing happens (R114, R122, R135). -/
def Obligations.BackoffExpiryUnbars : Prop :=
  ∀ (s : State) (c : ClassId) (p : PortId) (due : Instant), awake s = true →
    (s.classes.get c).barred.get p = some (.running due) →
    (¬ RanOut s due → exec (.backoffExpiry c p) s = .next s) ∧
    (RanOut s due →
      ∃ t, exec (.backoffExpiry c p) s = .next t ∧
        t = issueTest (evaluate c
          { s with
            classes := s.classes.set c
              { s.classes.get c with barred := (s.classes.get c).barred.set p none } }) ∧
        (t.classes.get c).barred = (s.classes.get c).barred.set p none ∧
        (∀ k, k ≠ c → (t.classes.get k).barred = (s.classes.get k).barred) ∧
        (∀ k, (t.classes.get k).prefs = (s.classes.get k).prefs ∧
          (t.classes.get k).current = (s.classes.get k).current) ∧
        OnlySteers s t)

/-- ISSUE: from READY in JOINING or ACTIVE, the first eligible entry is issued: it leaves the queue, becomes the
outstanding move, its class is MOVING towards its target with its current port kept, the lines are set a microsecond
before MREQ rises, and the port is AWAIT with the answer limit started; with no eligible entry nothing happens (R133,
R135, R136; that the lines wait for the end of a set-up or strobe in progress, notes/assumptions/37.md). -/
def Obligations.IssueSendsFirstEligibleEntry : Prop :=
  ∀ (s : State) (front back : List QueueEntry), s.mux.port = .ready →
    s.ctl.state = .joining ∨ s.ctl.state = .active →
    (∀ x ∈ front, ¬ (s.ctl.time - x.earliestStart).toNat < 2 ^ 31 ∨
      (s.ctl.state = .joining ∧ x.kind ≠ .place)) →
    (∀ e, s.mux.queue = front ++ e :: back →
      (s.ctl.time - e.earliestStart).toNat < 2 ^ 31 →
      (s.ctl.state = .joining → e.kind = .place) →
      exec .issue s =
        .next { s with
          classes := s.classes.set e.cls
            { s.classes.get e.cls with status := .moving, target := some e.target }
          mux :=
            { s.mux with
              queue := s.mux.queue.filter fun x => x.cls ≠ e.cls
              outstanding := some { cls := e.cls, target := e.target, mode := e.kind.mode }
              pins := pinsAfter
                (.request { cls := e.cls, target := e.target, mode := e.kind.mode }) s.mux.pins
              port := .await
              answerLimit := .running (afterMs s (if e.kind = .place ∨ e.kind = .evacuate then 10
                  else (settings s).drainLimit * 10)) } }) ∧
    (s.mux.queue = front → exec .issue s = .next s)

/-- DONE, REFUSED and CANCELLED end the outstanding move: DONE places the class on the target; REFUSED and CANCELLED
leave it PLACED on the port it had, or UNPLACED if it had none; REFUSED bars the target for REFUSE_BACKOFF; no class
has a target for the ended move, and no other class loses or gains a current port or a barred port. Then the port is
READY, the class is evaluated and the issue test made: the port is in AWAIT again only with a move that this test
issued. CANCELLED ends a move in CANCELLING alone (R114, R121, R135 to R137, R139). -/
def Obligations.AnswerEndsMove : Prop :=
  ∀ (s : State) (m : Move) (r : ClassRecord), awake s = true → s.mux.outstanding = some m →
    s.mux.port = .await ∨ s.mux.port = .cancelling → r = s.classes.get m.cls →
    (∃ t, exec .answerDone s = .next t ∧
      t = issueTest (evaluate m.cls
        (moveEnded s m.cls { r with status := .placed, current := some m.target, target := none })) ∧
      ReadyOrIssued s t ∧ (t.classes.get m.cls).current = some m.target ∧
      (∀ k, k ≠ m.cls → (t.classes.get k).current = (s.classes.get k).current) ∧
      (∀ k, (t.classes.get k).barred = (s.classes.get k).barred ∧
        (t.classes.get k).prefs = (s.classes.get k).prefs) ∧
      t.mux.cancelLimit = .stopped ∧ OnlySteers s t) ∧
    (∃ t, exec .answerRefused s = .next t ∧
      t = issueTest (evaluate m.cls (moveEnded s m.cls
        { r with
          status := if r.current = none then .unplaced else .placed
          target := none
          barred := r.barred.set m.target
            (some (.running
              (afterMs s ((settings s).refuseBackoff * 100)))) })) ∧
      ReadyOrIssued s t ∧
      (t.classes.get m.cls).barred = r.barred.set m.target
        (some (.running (afterMs s ((settings s).refuseBackoff * 100)))) ∧
      (∀ k, k ≠ m.cls → (t.classes.get k).barred = (s.classes.get k).barred) ∧
      (∀ k, (t.classes.get k).current = (s.classes.get k).current ∧
        (t.classes.get k).prefs = (s.classes.get k).prefs) ∧
      t.mux.cancelLimit = .stopped ∧ OnlySteers s t) ∧
    (s.mux.port = .cancelling →
      ∃ t, exec .answerCancelled s = .next t ∧
        t = issueTest (evaluate m.cls (moveEnded s m.cls
          { r with status := if r.current = none then .unplaced else .placed, target := none })) ∧
        ReadyOrIssued s t ∧ KeepsPlacement s t ∧ t.mux.cancelLimit = .stopped ∧ OnlySteers s t) ∧
    (s.mux.port = .await → exec .answerCancelled s = .next s)

/-- ANSWER_LIMIT_EXPIRY, once the limit has run out, stalls the port for a FORCED move and sends a cancel for a
DRAINED one; CANCEL_LIMIT_EXPIRY stalls it; before a limit has run out nothing happens; a stalled port keeps its
outstanding move, and answers find it and change nothing (R133, R138, R141; that MCAN waits for the end of a set-up or
strobe in progress, notes/assumptions/37.md). -/
def Obligations.LimitsCancelOrStall : Prop :=
  ∀ (s : State) (m : Move) (due : Instant), awake s = true → s.mux.outstanding = some m →
    (s.mux.port = .await → s.mux.answerLimit = .running due →
      (¬ RanOut s due → exec .answerLimitExpiry s = .next s) ∧
      (RanOut s due → m.mode = .forced →
        exec .answerLimitExpiry s =
          .next { s with
            mux := { s.mux with
              port := .stalled, answerLimit := .stopped, cancelLimit := .stopped } }) ∧
      (RanOut s due → m.mode = .drained →
        exec .answerLimitExpiry s =
          .next { s with
            mux := { s.mux with
              port := .cancelling, answerLimit := .stopped
              pins := pinsAfter .cancel s.mux.pins
              cancelLimit := .running (afterMs s 10) } })) ∧
    (s.mux.port = .cancelling → s.mux.cancelLimit = .running due →
      (¬ RanOut s due → exec .cancelLimitExpiry s = .next s) ∧
      (RanOut s due →
        exec .cancelLimitExpiry s =
          .next { s with
            mux := { s.mux with
              port := .stalled, answerLimit := .stopped, cancelLimit := .stopped } })) ∧
    (s.mux.port = .stalled →
      exec .answerDone s = .next s ∧ exec .answerRefused s = .next s ∧
      exec .answerCancelled s = .next s)

/-- While a FORCED move is in AWAIT, no command sends a cancel: no event takes the port to CANCELLING (R138). -/
def Obligations.ForcedMoveIsNeverCancelled : Prop :=
  ∀ (c : Instr) (s t : State) (m : Move), s.mux.port = .await → s.mux.outstanding = some m →
    m.mode = .forced → exec c s = .next t → t.mux.port ≠ .cancelling

/-- MRDY_FALL: the port is OFFLINE from whatever state it was in; an outstanding move is abandoned, and its class has
no current port and no target and is evaluated; leaving STALLED evaluates every in-use class; every other class keeps
its current port, every barred set and list is kept, both limit timers are stopped, and nothing is issued. In a warm
reset the level alone is recorded (R114, R142, R145, R157; the record of the level in a warm reset is deduced,
notes/assumptions/28.md). -/
def Obligations.MrdyFallAbandonsMove : Prop :=
  ∀ s : State,
    (awake s = true →
      ∃ t, exec .mrdyFall s = .next t ∧ t.mux.port = .offline ∧ t.mux.outstanding = none ∧
        t.mux.mrdy = false ∧ t.mux.answerLimit = .stopped ∧ t.mux.cancelLimit = .stopped ∧
        (∀ m, s.mux.outstanding = some m →
          (t.classes.get m.cls).current = none ∧ (t.classes.get m.cls).target = none) ∧
        (∀ k, (∀ m, s.mux.outstanding = some m → m.cls ≠ k) →
          (t.classes.get k).current = (s.classes.get k).current) ∧
        (∀ k, (t.classes.get k).prefs = (s.classes.get k).prefs ∧
          (t.classes.get k).barred = (s.classes.get k).barred) ∧
        (s.mux.port = .ready → s.mux.outstanding = none → t.mux.queue = s.mux.queue ∧
          t.classes = s.classes) ∧
        (∀ mux, mux = { s.mux with
            mrdy := false, port := .offline, outstanding := none, answerLimit := .stopped,
            cancelLimit := .stopped } →
          (∀ m u, s.mux.outstanding = some m → u = evaluate m.cls
              { s with
                classes := s.classes.set m.cls
                  { s.classes.get m.cls with status := .unplaced, current := none, target := none }
                mux := mux } →
            t = if s.mux.port = .stalled then evaluateAll u else u) ∧
          (s.mux.outstanding = none →
            t = if s.mux.port = .stalled then evaluateAll { s with mux := mux }
              else { s with mux := mux })) ∧
        OnlySteers { s with mux := { s.mux with mrdy := false } } t) ∧
    (s.ctl.state = .resetting →
      exec .mrdyFall s = .next { s with mux := { s.mux with mrdy := false } })

/-- MRDY_RISE from OFFLINE: every in-use class is UNPLACED with no current port, barred sets and lists are kept, the
queue is emptied and the port READY; then every in-use class is evaluated and the issue test made, so that every queue
entry is a PLACE and the port READY, or AWAIT where the issue test finds one. ALRTN is released and driven low again
where it was low before and after and the station is not silenced. In another port state, and in a warm reset, the
level alone is recorded (R114, R135, R143, R145, R157, R164; the record of ALRTN is the model's,
notes/assumptions/31.md; so is that a rise in another port state, which R143 says cannot arise, records the level
alone, notes/assumptions/15.md; the record of the level in a warm reset is deduced, notes/assumptions/28.md). -/
def Obligations.MrdyRiseReplacesEveryClass : Prop :=
  (∀ s : State, awake s = true → s.mux.port = .offline →
    ∃ t, exec .mrdyRise s = .next t ∧ t.mux.mrdy = true ∧
      (∀ u x, u = { s with
          classes := s.classes.map fun r =>
            if r.prefs = [] then r
            else { r with status := .unplaced, current := none, target := none }
          mux := { s.mux with
            mrdy := true, port := .ready, queue := [], outstanding := none,
            answerLimit := .stopped, cancelLimit := .stopped } } →
        x = issueTest (evaluateAll u) →
        t = { x with mux := { x.mux with alertReleased := t.mux.alertReleased } }) ∧
      (t.mux.alertReleased = true ↔
        alertLow s = true ∧ alertLow t = true ∧ s.ctl.silenced = false) ∧
      (SteerLaw s →
        (t.mux.port = .ready ∨ t.mux.port = .await) ∧
        (∀ k, (s.classes.get k).prefs ≠ [] → (t.classes.get k).current = none) ∧
        (∀ k, (s.classes.get k).prefs = [] → t.classes.get k = s.classes.get k) ∧
        (∀ k, (t.classes.get k).prefs = (s.classes.get k).prefs ∧
          (t.classes.get k).barred = (s.classes.get k).barred) ∧
        (∀ e ∈ t.mux.queue, e.kind = .place) ∧
        (s.ctl.state = .unconfigured → t.mux.queue = [] ∧ t.mux.port = .ready) ∧
        OnlySteers
          { s with
            mux := { s.mux with mrdy := true, alertReleased := t.mux.alertReleased } } t)) ∧
  (∀ s : State,
    (awake s = true ∧ s.mux.port ≠ .offline) ∨ s.ctl.state = .resetting →
    exec .mrdyRise s = .next { s with mux := { s.mux with mrdy := true } })

/-! ## The station life cycle -/

/-- CONFIG_WAIT_EXPIRY: in UNCONFIGURED, once the timer has run out, the defaults take effect, the defaulted flag is
set and the station is JOINING, with every class in use on the list P0, P1, P2, P3 and S0 and S1 LOST; the ports whose
signal and hello-seen condition are met enter PROBATION, the beacon is started and a HEALTH queued unless the station
is silenced, and a changed own opinion requests a recompute (R17, R22, R33, R77, R79, R125, R148, R151, R152, R153,
R155; that the hello timer drops the microseconds is deduced, notes/assumptions/32.md). -/
def Obligations.ConfigWaitAppliesDefaults : Prop :=
  ∀ (s : State) (due : Instant), s.ctl.state = .unconfigured → s.ctl.configWait = .running due →
    RanOut s due → PortsLaw s → SteerLaw s →
    ∃ t, exec .configWaitExpiry s = .next t ∧
      t.ctl = { s.ctl with
        config := some defaultSettings, defaulted := true, state := .joining,
        configWait := .stopped, joinTime := .running (afterMs s 3000) } ∧
      (∀ p, t.ports.get p =
        { s.ports.get p with
          state := reportedState (s.lanes.get p) true, cleanEpochs := (t.ports.get p).cleanEpochs }) ∧
      (∀ p, (t.lanes.get p) =
        { s.lanes.get p with
          supervised := true
          helloTimer := if (t.ports.get p).state = .probation then
              .running (countedMs s 300)
            else (s.lanes.get p).helloTimer }) ∧
      (∀ c, (t.classes.get c).prefs = [0, 1, 2, 3] ∧ (t.classes.get c).status = .unplaced ∧
        (t.classes.get c).current = none) ∧
      (∀ sw : SwitchId, t.opinions.get sw = if sw.val < 2 then .lost else .none) ∧
      (s.ctl.silenced = true → t.beacon = s.beacon ∧ t.bus = s.bus) ∧
      (s.ctl.silenced = false → t.beacon = .running (afterMs s 100) ∧
        CauseHandled true s.bus t.bus) ∧
      (t.opinions = s.opinions → t.verdicts = s.verdicts) ∧
      (t.opinions ≠ s.opinions → RecomputeRequested s t) ∧
      t.mux = s.mux ∧ t.epoch = s.epoch ∧ t.view = s.view

/-- JOIN_TIME_EXPIRY: once the joining window has run out, the station is ACTIVE with the timer stopped; a HEALTH is
due under the gate of R76, the classes are evaluated and the issue test is made; nothing else changes. Before it has
run out nothing happens. The window ends the same way at an EPOCH_END that changes the state of a port and after which
every port that is not absent is UP, and at none that changes no port state (R53, R55, R76, R79, R114, R135, R153). -/
def Obligations.JoinTimeEndsWindow : Prop :=
  (∀ (s : State) (due : Instant), s.ctl.state = .joining → s.ctl.joinTime = .running due →
    (¬ RanOut s due → exec .joinTimeExpiry s = .next s) ∧
    (RanOut s due →
      ∃ bus u t, CauseHandled (!s.ctl.silenced) s.bus bus ∧
        u = { s with bus := bus, ctl := { s.ctl with state := .active, joinTime := .stopped } } ∧
        t = issueTest (evaluateAll u) ∧ exec .joinTimeExpiry s = .next t ∧
        OnlySteers u t ∧ KeepsPlacement s t)) ∧
  (∀ (s : State) (due : Instant), s.ctl.state = .joining → s.epoch = .running due →
    RanOut s due →
    ∃ t, exec .epochEnd s = .next t ∧
      ((∃ p, (t.ports.get p).state ≠ (s.ports.get p).state) →
        (∀ p, (t.ports.get p).state = .absent ∨ (t.ports.get p).state = .up) →
        t.ctl = { s.ctl with state := .active, joinTime := .stopped } ∧
        (s.ctl.silenced = false →
          t.bus.dueMark = true ∨ TxEntry.health ∈ t.bus.queue)) ∧
      ((∀ p, (t.ports.get p).state = (s.ports.get p).state) → t.ctl = s.ctl))

/-- RSTN_FALL and RSTN_RISE: a fall begins a warm reset in UNCONFIGURED, JOINING and ACTIVE, with every block at its
warm-reset values, and extends one in progress; a rise in a warm reset begins the count of its 100 µs again (R18, R36,
R60, R82, R93, R107, R126, R145, R157; of the model's own fields, the record of the drive in the take slot is cleared,
notes/assumptions/21.md, a notice being received is still on the wires, one being sent ends but for what another
station drives, notes/assumptions/30.md, and the record of ALRTN is cleared, notes/assumptions/31.md; that the
steering port follows MRDY at the start of the reset already is the model's, notes/assumptions/38.md). -/
def Obligations.RstnBeginsAndExtendsWarmReset : Prop :=
  ∀ s : State,
    (awake s = true →
      (∃ t, exec .rstnFall s = .next t ∧
        WarmResetOf { s with ctl := { s.ctl with rstnHigh := false } } t) ∧
      exec .rstnRise s = .next { s with ctl := { s.ctl with rstnHigh := true } }) ∧
    (s.ctl.state = .resetting →
      exec .rstnFall s =
        .next { s with ctl := { s.ctl with rstnHigh := false, resetQuiet := 0 } } ∧
      exec .rstnRise s =
        .next { s with ctl := { s.ctl with rstnHigh := true, resetQuiet := 0 } })

/-- WARM_RESET_END: once RSTN has been high for 100 µs, a configured station enters JOINING with its window and, not
being silenced, its beacon started, a HEALTH queued and a recompute requested, and the DOWN ports whose signal and
hello-seen condition are met enter PROBATION; an unconfigured one is UNCONFIGURED with CONFIG_WAIT started; the
steering port is READY or OFFLINE by MRDY; the placements are kept; before the 100 µs, or with RSTN low, the reset
goes on (R17, R22, R77, R79, R145, R152, R153, R157; the recompute request at the end is deduced,
notes/assumptions/6.md). -/
def Obligations.WarmResetEnds : Prop :=
  ∀ s : State, s.ctl.state = .resetting →
    (s.ctl.rstnHigh = false ∨ s.ctl.resetQuiet < 100 → exec .warmResetEnd s = .next s) ∧
    (s.ctl.rstnHigh = true → 100 ≤ s.ctl.resetQuiet →
      s.mux.queue = [] → s.ctl.silenced = false → s.bus.activity = .idle →
      (∀ p, (s.ports.get p).state = .down ∨ (s.ports.get p).state = .absent) →
      ∃ t, exec .warmResetEnd s = .next t ∧
        t.mux = { s.mux with port := if s.mux.mrdy then .ready else .offline } ∧
        t.classes = s.classes ∧
        t.bus = { s.bus with sinceEvent := 0, queue := t.bus.queue } ∧
        t.ctl.config = s.ctl.config ∧ t.ctl.time = s.ctl.time ∧ t.ctl.id = s.ctl.id ∧
        t.ctl.defaulted = s.ctl.defaulted ∧ t.epoch = s.epoch ∧ t.view = s.view ∧
        (s.ctl.config.isSome = true →
          t.ctl.state = .joining ∧
          t.ctl.joinTime =
            .running (afterMs s ((settings s).joinTime * 100)) ∧
          t.beacon = .running (afterMs s ((settings s).beacon * 10)) ∧
          t.bus.queue = (if TxEntry.health ∈ s.bus.queue then s.bus.queue
            else s.bus.queue ++ [.health]) ∧
          t.verdicts.activity ≠ .idle ∧
          (s.opinions = deriveOpinions s → RecomputeRequested s t) ∧
          (∀ p, (s.ports.get p).state = .down →
            t.ports.get p =
              { s.ports.get p with
                state := reportedState (s.lanes.get p) (s.lanes.get p).supervised
                cleanEpochs := (t.ports.get p).cleanEpochs }) ∧
          (∀ p, (s.ports.get p).state = .absent → t.ports.get p = s.ports.get p)) ∧
        (s.ctl.config = none →
          t.ctl.state = .unconfigured ∧ t.ctl.configWait = .running (afterMs s 2000) ∧
          t.ports = s.ports ∧ t.bus.queue = s.bus.queue))

/-- SUPPLY_LOW: in every state but HOLD the station enters HOLD: no timer of any block runs, the bus controller gives
up its queue, its slot and the notice it follows, a recompute is abandoned, the hold timers are stopped, expired ones
as well, the strobes are low with none to come, and every other value of every block is kept; in HOLD it changes
nothing (R19, R28, R35, R61, R82, R93, R103, R108, R122, R127, R145, R159; that a stopped timer keeps no
remaining time is deduced, notes/assumptions/16.md; the record of the lines and the drives that wait are the model's,
notes/assumptions/30.md, notes/assumptions/37.md). -/
def Obligations.SupplyLowStopsEverything : Prop :=
  ∀ s : State,
    (s.ctl.state = .hold → exec .supplyLow s = .next s) ∧
    (s.ctl.state ≠ .hold →
      ∃ t, exec .supplyLow s = .next t ∧
        (∀ p, Halted (s.lanes.get p).helloTimer (t.lanes.get p).helloTimer ∧
          t.lanes.get p = { s.lanes.get p with helloTimer := (t.lanes.get p).helloTimer }) ∧
        Halted s.epoch t.epoch ∧ t.beacon = .stopped ∧ t.opinions = s.opinions ∧
        (∀ p, t.ports.get p = { s.ports.get p with revertTimer := (t.ports.get p).revertTimer } ∧
          ((s.ports.get p).revertTimer = none → (t.ports.get p).revertTimer = none) ∧
          (∀ u, (s.ports.get p).revertTimer = some u →
            ∃ v, (t.ports.get p).revertTimer = some v ∧ Halted u v)) ∧
        t.bus = { s.bus with
          activity := .idle, quiet := 0, sinceEvent := 0, hold := none, slot := none, queue := [],
          dueMark := false } ∧
        t.view.held = s.view.held ∧
        List.Forall₂
          (fun e f => f = { e with freshTimer := f.freshTimer, expiryTimer := f.expiryTimer } ∧
            Halted e.freshTimer f.freshTimer ∧ Halted e.expiryTimer f.expiryTimer)
          s.view.entries t.view.entries ∧
        t.verdicts.activity = .idle ∧ t.verdicts.again = false ∧
        (∀ sw, t.verdicts.switches.get sw =
            { s.verdicts.switches.get sw with holdTimer := .stopped }) ∧
        (∀ c, t.classes.get c = { s.classes.get c with barred := (t.classes.get c).barred } ∧
          ∀ p, ((s.classes.get c).barred.get p = none → (t.classes.get c).barred.get p = none) ∧
            (∀ u, (s.classes.get c).barred.get p = some u →
              ∃ v, (t.classes.get c).barred.get p = some v ∧ Halted u v)) ∧
        t.mux = { s.mux with
          answerLimit := t.mux.answerLimit, cancelLimit := t.mux.cancelLimit
          pins := { s.mux.pins with setUp := 0, mreq := 0, mcan := 0, waiting := [] } } ∧
        Halted s.mux.answerLimit t.mux.answerLimit ∧ Halted s.mux.cancelLimit t.mux.cancelLimit ∧
        t.ctl = { s.ctl with
          state := .hold, configWait := t.ctl.configWait, joinTime := t.ctl.joinTime } ∧
        Halted s.ctl.configWait t.ctl.configWait ∧ Halted s.ctl.joinTime t.ctl.joinTime ∧
        t.pending = s.pending)

/-- SUPPLY_GOOD: in HOLD it ends HOLD in a cold reset, with every block at its cold-reset values and the levels and
straps of the pins; with RSTN low a warm reset begins at once and changes none of them but CONFIG_WAIT; in every
other state it is not taken (R2, R3, R18, R36, R60, R82, R93, R107, R125, R145, R146, R158; of the model's own
fields, the record of the drive in the take slot is cleared, notes/assumptions/21.md, what the lines of the bus
carry is read with the pins, notes/assumptions/30.md, and the record of ALRTN is cleared, notes/assumptions/31.md). -/
def Obligations.SupplyGoodIsColdReset : Prop :=
  ∀ (s : State) (pins : Pins),
    (s.ctl.state ≠ .hold → exec (.supplyGood pins) s = .next s) ∧
    (s.ctl.state = .hold →
      ∃ t, exec (.supplyGood pins) s = .next t ∧ t.pending = s.pending ∧
        (∀ p, t.lanes.get p =
          { present := true, supervised := true, level := some (pins.sig.get p), errors := 0,
            peak := 0, helloTimer := .stopped, helloSeen := false }) ∧
        t.epoch = .running { time := 100#32, micros := 0 } ∧
        (∀ p, t.ports.get p =
          { state := .down, cause := .start, score := 1023, cleanEpochs := 0, upSince := none,
            revertTimer := none, revertReady := false }) ∧
        (∀ sw, t.opinions.get sw = .none) ∧
        t.bus =
          { activity := .idle, quiet := 0, sinceEvent := 0
            wires :=
              { foreign := pins.busBusy, clockRuns := pins.busBusy, dataLow := pins.dataLow }
            hold := none, slot := none, queue := [], dueMark := false, lastHealthEnd := none, lastTaken := false, overrun := false,
            takeDriven := false } ∧
        t.beacon = .stopped ∧ t.view = { entries := [], held := [] } ∧
        t.verdicts.activity = .idle ∧ t.verdicts.again = false ∧
        (∀ sw, t.verdicts.switches.get sw =
          { verdict := .clear, opinionRead := .none, lastA := 0, lastK := 0, condition := false,
            holdTimer := .stopped }) ∧
        (∀ c, t.classes.get c =
          { prefs := [], status := .unused, current := none, target := none,
            barred := Four.all none }) ∧
        t.mux =
          { queue := [], port := if pins.mrdy then .ready else .offline, outstanding := none,
            answerLimit := .stopped, cancelLimit := .stopped, mrdy := pins.mrdy
            pins :=
              { mcls := 0, mtgt := 0, mmode := false, setUp := 0, mreq := 0, mcan := 0,
                waiting := [] }
            alertReleased := false } ∧
        t.ctl =
          { id := if 1 ≤ pins.straps.toNat ∧ pins.straps.toNat ≤ 30 then pins.straps.toNat else 30
            state := if pins.rstn then .unconfigured else .resetting
            silenced := false, config := none
            defaulted := decide (pins.straps.toNat = 0 ∨ pins.straps.toNat = 31)
            lateConfig := false, time := 0#32, micros := 0
            configWait := if pins.rstn then .running { time := 2000#32, micros := 0 } else .stopped
            joinTime := .stopped, rstnHigh := pins.rstn, resetQuiet := 0 })

/-! ## The content of a CONFIG -/

/-- The content of a CONFIG: every field is read at its place and clamped into its range, T_HI and T_LO are read as
sent, and EXPIRE is raised, by the least that does it, to FRESH. The content is refused exactly in the seven cases: a
list longer than four, a port twice in a list, a list that names an absent port, T_HI outside 16 to 1008, T_LO more
than T_HI less 16, every port absent, or every list empty (R69 to R71, R148 to R150). -/
def Obligations.ConfigContentIsReadAndRefused : Prop :=
  ∀ (body : List Byte) (g : Settings), g = readConfig body →
    let value (lo hi v x : Nat) : Prop := x = max lo (min hi v)
    (∀ p : PortId,
      ((g.portMap.get p).absent = true ↔ byteAt body p.val / 16 % 2 = 1) ∧
      ((g.portMap.get p).absent = false →
        (g.portMap.get p).switch.val = byteAt body p.val / 32 ∧
        ((g.portMap.get p).supervised = true ↔ byteAt body p.val / 8 % 2 = 1))) ∧
    value 1 15 (byteAt body 4 / 16) g.qCond ∧ value 1 15 (byteAt body 4 % 16) g.qClear ∧
    g.tHi = byteAt body 5 % 4 * 256 + byteAt body 6 ∧
    g.tLo = byteAt body 7 % 4 * 256 + byteAt body 8 ∧
    value 1 15 (byteAt body 9 % 16) g.cvw ∧ value 1 63 (byteAt body 10) g.decay ∧
    value 1 255 (byteAt body 11) g.probationEpochs ∧ value 1 255 (byteAt body 12) g.helloLimit ∧
    value 5 100 (byteAt body 13) g.beacon ∧ value 10 255 (byteAt body 14) g.fresh ∧
    (∀ x, value 1 255 (byteAt body 15) x →
      x ≤ g.expire ∧ g.fresh * 10 ≤ g.expire * 100 ∧ g.expire ≤ 255 ∧
      ∀ y, x ≤ y → g.fresh * 10 ≤ y * 100 → g.expire ≤ y) ∧
    g.condemnHold = byteAt body 16 ∧ g.revertHold = byteAt body 17 ∧
    g.stagger = byteAt body 18 ∧ value 1 255 (byteAt body 19) g.drainLimit ∧
    value 1 255 (byteAt body 20) g.refuseBackoff ∧ value 10 250 (byteAt body 21) g.joinTime ∧
    (g.holdEn = true ↔ byteAt body 22 % 2 = 1) ∧
    (∀ c : ClassId,
      (g.lists.get c).length = min 4 (byteAt body (23 + 2 * c.val)) ∧
      ∀ (i : Nat) (p : PortId), (g.lists.get c)[i]? = some p →
        p.val = byteAt body (24 + 2 * c.val) / 4 ^ (3 - i) % 4) ∧
    (configRefused body = true ↔
      (∃ c : ClassId, 4 < byteAt body (23 + 2 * c.val)) ∨
      (∃ c, ¬ (g.lists.get c).Nodup) ∨
      (∃ c, ∃ p ∈ g.lists.get c, (g.portMap.get p).absent = true) ∨
      g.tHi < 16 ∨ 1008 < g.tHi ∨ g.tHi < g.tLo + 16 ∨
      (∀ p, (g.portMap.get p).absent = true) ∨
      (∀ c : ClassId, byteAt body (23 + 2 * c.val) = 0))
end

