-- ==== Sys2Proof/Laws/Records.lean ====
section
/-! SUPPORT. The laws of the two fixed-size records: reading after writing, reading a built, mapped or constant
record, and equality by reading. -/

namespace Sys2Proof

/-! ## Numbers -/

@[simp] theorem mem_allPorts (p : PortId) : p ∈ allPorts := by revert p; decide

@[simp] theorem mem_allSwitches (sw : SwitchId) : sw ∈ allSwitches := by revert sw; decide

@[simp] theorem mem_allClasses (c : ClassId) : c ∈ allClasses := by revert c; decide

/-! ## One value per port -/

variable {α β : Type}

theorem Four.get_set (f : Four α) (i j : PortId) (a : α) :
    (f.set i a).get j = if j = i then a else f.get j := by
  fin_cases i <;> fin_cases j <;> rfl

@[simp] theorem Four.get_set_same (f : Four α) (i : PortId) (a : α) : (f.set i a).get i = a := by
  simp [Four.get_set]

theorem Four.get_set_other (f : Four α) {i j : PortId} (a : α) (h : j ≠ i) :
    (f.set i a).get j = f.get j := by
  simp [Four.get_set, h]

@[simp] theorem Four.get_build (g : PortId → α) (i : PortId) : (Four.build g).get i = g i := by
  fin_cases i <;> rfl

@[simp] theorem Four.get_all (a : α) (i : PortId) : (Four.all a).get i = a := by
  fin_cases i <;> rfl

@[simp] theorem Four.get_map (g : α → β) (f : Four α) (i : PortId) :
    (f.map g).get i = g (f.get i) := by
  fin_cases i <;> rfl

theorem Four.eq_of_get {f g : Four α} (h : ∀ i, f.get i = g.get i) : f = g := by
  have h0 := h 0
  have h1 := h 1
  have h2 := h 2
  have h3 := h 3
  cases f
  cases g
  simp_all [Four.get]

@[simp] theorem Four.set_get (f : Four α) (i : PortId) : f.set i (f.get i) = f := by
  fin_cases i <;> rfl

/-! ## One value per switch or class -/

theorem Eight.get_set (f : Eight α) (i j : Fin 8) (a : α) :
    (f.set i a).get j = if j = i then a else f.get j := by
  fin_cases i <;> fin_cases j <;> rfl

@[simp] theorem Eight.get_set_same (f : Eight α) (i : Fin 8) (a : α) : (f.set i a).get i = a := by
  simp [Eight.get_set]

theorem Eight.get_set_other (f : Eight α) {i j : Fin 8} (a : α) (h : j ≠ i) :
    (f.set i a).get j = f.get j := by
  simp [Eight.get_set, h]

@[simp] theorem Eight.get_build (g : Fin 8 → α) (i : Fin 8) : (Eight.build g).get i = g i := by
  fin_cases i <;> rfl

@[simp] theorem Eight.get_all (a : α) (i : Fin 8) : (Eight.all a).get i = a := by
  fin_cases i <;> rfl

@[simp] theorem Eight.get_map (g : α → β) (f : Eight α) (i : Fin 8) :
    (f.map g).get i = g (f.get i) := by
  fin_cases i <;> rfl

theorem Eight.eq_of_get {f g : Eight α} (h : ∀ i, f.get i = g.get i) : f = g := by
  have h0 := h 0
  have h1 := h 1
  have h2 := h 2
  have h3 := h 3
  have h4 := h 4
  have h5 := h 5
  have h6 := h 6
  have h7 := h 7
  cases f
  cases g
  simp_all [Eight.get]

@[simp] theorem Eight.set_get (f : Eight α) (i : Fin 8) : f.set i (f.get i) = f := by
  fin_cases i <;> rfl

end Sys2Proof
end

