-- ==== Sys2Proof/Laws/State.lean ====
section
/-! SUPPORT. What each update of one record does to each field of State, and what `State.reset` is. -/

namespace Sys2Proof.Machine

variable (s : State)

/-! ## setLane: the record of one lane -/

@[simp] theorem State.setLane_lanes (p : PortId) (l : Lane) :
    (s.setLane p l).lanes = s.lanes.set p l := rfl

@[simp] theorem State.setLane_epoch (p : PortId) (l : Lane) :
    (s.setLane p l).epoch = s.epoch := rfl

@[simp] theorem State.setLane_ports (p : PortId) (l : Lane) :
    (s.setLane p l).ports = s.ports := rfl

@[simp] theorem State.setLane_opinions (p : PortId) (l : Lane) :
    (s.setLane p l).opinions = s.opinions := rfl

@[simp] theorem State.setLane_bus (p : PortId) (l : Lane) :
    (s.setLane p l).bus = s.bus := rfl

@[simp] theorem State.setLane_beacon (p : PortId) (l : Lane) :
    (s.setLane p l).beacon = s.beacon := rfl

@[simp] theorem State.setLane_view (p : PortId) (l : Lane) :
    (s.setLane p l).view = s.view := rfl

@[simp] theorem State.setLane_verdicts (p : PortId) (l : Lane) :
    (s.setLane p l).verdicts = s.verdicts := rfl

@[simp] theorem State.setLane_classes (p : PortId) (l : Lane) :
    (s.setLane p l).classes = s.classes := rfl

@[simp] theorem State.setLane_mux (p : PortId) (l : Lane) :
    (s.setLane p l).mux = s.mux := rfl

@[simp] theorem State.setLane_ctl (p : PortId) (l : Lane) :
    (s.setLane p l).ctl = s.ctl := rfl

@[simp] theorem State.setLane_pending (p : PortId) (l : Lane) :
    (s.setLane p l).pending = s.pending := rfl

/-! ## setPort: one port record -/

@[simp] theorem State.setPort_lanes (p : PortId) (r : PortRecord) :
    (s.setPort p r).lanes = s.lanes := rfl

@[simp] theorem State.setPort_epoch (p : PortId) (r : PortRecord) :
    (s.setPort p r).epoch = s.epoch := rfl

@[simp] theorem State.setPort_ports (p : PortId) (r : PortRecord) :
    (s.setPort p r).ports = s.ports.set p r := rfl

@[simp] theorem State.setPort_opinions (p : PortId) (r : PortRecord) :
    (s.setPort p r).opinions = s.opinions := rfl

@[simp] theorem State.setPort_bus (p : PortId) (r : PortRecord) :
    (s.setPort p r).bus = s.bus := rfl

@[simp] theorem State.setPort_beacon (p : PortId) (r : PortRecord) :
    (s.setPort p r).beacon = s.beacon := rfl

@[simp] theorem State.setPort_view (p : PortId) (r : PortRecord) :
    (s.setPort p r).view = s.view := rfl

@[simp] theorem State.setPort_verdicts (p : PortId) (r : PortRecord) :
    (s.setPort p r).verdicts = s.verdicts := rfl

@[simp] theorem State.setPort_classes (p : PortId) (r : PortRecord) :
    (s.setPort p r).classes = s.classes := rfl

@[simp] theorem State.setPort_mux (p : PortId) (r : PortRecord) :
    (s.setPort p r).mux = s.mux := rfl

@[simp] theorem State.setPort_ctl (p : PortId) (r : PortRecord) :
    (s.setPort p r).ctl = s.ctl := rfl

@[simp] theorem State.setPort_pending (p : PortId) (r : PortRecord) :
    (s.setPort p r).pending = s.pending := rfl

/-! ## setClass: one class record -/

@[simp] theorem State.setClass_lanes (c : ClassId) (r : ClassRecord) :
    (s.setClass c r).lanes = s.lanes := rfl

@[simp] theorem State.setClass_epoch (c : ClassId) (r : ClassRecord) :
    (s.setClass c r).epoch = s.epoch := rfl

@[simp] theorem State.setClass_ports (c : ClassId) (r : ClassRecord) :
    (s.setClass c r).ports = s.ports := rfl

@[simp] theorem State.setClass_opinions (c : ClassId) (r : ClassRecord) :
    (s.setClass c r).opinions = s.opinions := rfl

@[simp] theorem State.setClass_bus (c : ClassId) (r : ClassRecord) :
    (s.setClass c r).bus = s.bus := rfl

@[simp] theorem State.setClass_beacon (c : ClassId) (r : ClassRecord) :
    (s.setClass c r).beacon = s.beacon := rfl

@[simp] theorem State.setClass_view (c : ClassId) (r : ClassRecord) :
    (s.setClass c r).view = s.view := rfl

@[simp] theorem State.setClass_verdicts (c : ClassId) (r : ClassRecord) :
    (s.setClass c r).verdicts = s.verdicts := rfl

@[simp] theorem State.setClass_classes (c : ClassId) (r : ClassRecord) :
    (s.setClass c r).classes = s.classes.set c r := rfl

@[simp] theorem State.setClass_mux (c : ClassId) (r : ClassRecord) :
    (s.setClass c r).mux = s.mux := rfl

@[simp] theorem State.setClass_ctl (c : ClassId) (r : ClassRecord) :
    (s.setClass c r).ctl = s.ctl := rfl

@[simp] theorem State.setClass_pending (c : ClassId) (r : ClassRecord) :
    (s.setClass c r).pending = s.pending := rfl

/-! ## setSwitch: one switch record -/

@[simp] theorem State.setSwitch_lanes (sw : SwitchId) (w : SwitchRecord) :
    (s.setSwitch sw w).lanes = s.lanes := rfl

@[simp] theorem State.setSwitch_epoch (sw : SwitchId) (w : SwitchRecord) :
    (s.setSwitch sw w).epoch = s.epoch := rfl

@[simp] theorem State.setSwitch_ports (sw : SwitchId) (w : SwitchRecord) :
    (s.setSwitch sw w).ports = s.ports := rfl

@[simp] theorem State.setSwitch_opinions (sw : SwitchId) (w : SwitchRecord) :
    (s.setSwitch sw w).opinions = s.opinions := rfl

@[simp] theorem State.setSwitch_bus (sw : SwitchId) (w : SwitchRecord) :
    (s.setSwitch sw w).bus = s.bus := rfl

@[simp] theorem State.setSwitch_beacon (sw : SwitchId) (w : SwitchRecord) :
    (s.setSwitch sw w).beacon = s.beacon := rfl

@[simp] theorem State.setSwitch_view (sw : SwitchId) (w : SwitchRecord) :
    (s.setSwitch sw w).view = s.view := rfl

@[simp] theorem State.setSwitch_switches (sw : SwitchId) (w : SwitchRecord) :
    (s.setSwitch sw w).verdicts.switches = s.verdicts.switches.set sw w := rfl

@[simp] theorem State.setSwitch_activity (sw : SwitchId) (w : SwitchRecord) :
    (s.setSwitch sw w).verdicts.activity = s.verdicts.activity := rfl

@[simp] theorem State.setSwitch_again (sw : SwitchId) (w : SwitchRecord) :
    (s.setSwitch sw w).verdicts.again = s.verdicts.again := rfl

@[simp] theorem State.setSwitch_classes (sw : SwitchId) (w : SwitchRecord) :
    (s.setSwitch sw w).classes = s.classes := rfl

@[simp] theorem State.setSwitch_mux (sw : SwitchId) (w : SwitchRecord) :
    (s.setSwitch sw w).mux = s.mux := rfl

@[simp] theorem State.setSwitch_ctl (sw : SwitchId) (w : SwitchRecord) :
    (s.setSwitch sw w).ctl = s.ctl := rfl

@[simp] theorem State.setSwitch_pending (sw : SwitchId) (w : SwitchRecord) :
    (s.setSwitch sw w).pending = s.pending := rfl

/-! ## setBus: the station bus controller -/

@[simp] theorem State.setBus_lanes (b : Bus) :
    (s.setBus b).lanes = s.lanes := rfl

@[simp] theorem State.setBus_epoch (b : Bus) :
    (s.setBus b).epoch = s.epoch := rfl

@[simp] theorem State.setBus_ports (b : Bus) :
    (s.setBus b).ports = s.ports := rfl

@[simp] theorem State.setBus_opinions (b : Bus) :
    (s.setBus b).opinions = s.opinions := rfl

@[simp] theorem State.setBus_bus (b : Bus) :
    (s.setBus b).bus = b := rfl

@[simp] theorem State.setBus_beacon (b : Bus) :
    (s.setBus b).beacon = s.beacon := rfl

@[simp] theorem State.setBus_view (b : Bus) :
    (s.setBus b).view = s.view := rfl

@[simp] theorem State.setBus_verdicts (b : Bus) :
    (s.setBus b).verdicts = s.verdicts := rfl

@[simp] theorem State.setBus_classes (b : Bus) :
    (s.setBus b).classes = s.classes := rfl

@[simp] theorem State.setBus_mux (b : Bus) :
    (s.setBus b).mux = s.mux := rfl

@[simp] theorem State.setBus_ctl (b : Bus) :
    (s.setBus b).ctl = s.ctl := rfl

@[simp] theorem State.setBus_pending (b : Bus) :
    (s.setBus b).pending = s.pending := rfl

/-! ## setMux: the move queue and steering port controller -/

@[simp] theorem State.setMux_lanes (m : Mux) :
    (s.setMux m).lanes = s.lanes := rfl

@[simp] theorem State.setMux_epoch (m : Mux) :
    (s.setMux m).epoch = s.epoch := rfl

@[simp] theorem State.setMux_ports (m : Mux) :
    (s.setMux m).ports = s.ports := rfl

@[simp] theorem State.setMux_opinions (m : Mux) :
    (s.setMux m).opinions = s.opinions := rfl

@[simp] theorem State.setMux_bus (m : Mux) :
    (s.setMux m).bus = s.bus := rfl

@[simp] theorem State.setMux_beacon (m : Mux) :
    (s.setMux m).beacon = s.beacon := rfl

@[simp] theorem State.setMux_view (m : Mux) :
    (s.setMux m).view = s.view := rfl

@[simp] theorem State.setMux_verdicts (m : Mux) :
    (s.setMux m).verdicts = s.verdicts := rfl

@[simp] theorem State.setMux_classes (m : Mux) :
    (s.setMux m).classes = s.classes := rfl

@[simp] theorem State.setMux_mux (m : Mux) :
    (s.setMux m).mux = m := rfl

@[simp] theorem State.setMux_ctl (m : Mux) :
    (s.setMux m).ctl = s.ctl := rfl

@[simp] theorem State.setMux_pending (m : Mux) :
    (s.setMux m).pending = s.pending := rfl

/-! ## setStation: the station controller -/

@[simp] theorem State.setStation_lanes (c : Station) :
    (s.setStation c).lanes = s.lanes := rfl

@[simp] theorem State.setStation_epoch (c : Station) :
    (s.setStation c).epoch = s.epoch := rfl

@[simp] theorem State.setStation_ports (c : Station) :
    (s.setStation c).ports = s.ports := rfl

@[simp] theorem State.setStation_opinions (c : Station) :
    (s.setStation c).opinions = s.opinions := rfl

@[simp] theorem State.setStation_bus (c : Station) :
    (s.setStation c).bus = s.bus := rfl

@[simp] theorem State.setStation_beacon (c : Station) :
    (s.setStation c).beacon = s.beacon := rfl

@[simp] theorem State.setStation_view (c : Station) :
    (s.setStation c).view = s.view := rfl

@[simp] theorem State.setStation_verdicts (c : Station) :
    (s.setStation c).verdicts = s.verdicts := rfl

@[simp] theorem State.setStation_classes (c : Station) :
    (s.setStation c).classes = s.classes := rfl

@[simp] theorem State.setStation_mux (c : Station) :
    (s.setStation c).mux = s.mux := rfl

@[simp] theorem State.setStation_ctl (c : Station) :
    (s.setStation c).ctl = c := rfl

@[simp] theorem State.setStation_pending (c : Station) :
    (s.setStation c).pending = s.pending := rfl

/-! ## setEntries: the entries of the peer view table -/

@[simp] theorem State.setEntries_lanes (es : List PeerEntry) :
    (s.setEntries es).lanes = s.lanes := rfl

@[simp] theorem State.setEntries_epoch (es : List PeerEntry) :
    (s.setEntries es).epoch = s.epoch := rfl

@[simp] theorem State.setEntries_ports (es : List PeerEntry) :
    (s.setEntries es).ports = s.ports := rfl

@[simp] theorem State.setEntries_opinions (es : List PeerEntry) :
    (s.setEntries es).opinions = s.opinions := rfl

@[simp] theorem State.setEntries_bus (es : List PeerEntry) :
    (s.setEntries es).bus = s.bus := rfl

@[simp] theorem State.setEntries_beacon (es : List PeerEntry) :
    (s.setEntries es).beacon = s.beacon := rfl

@[simp] theorem State.setEntries_entries (es : List PeerEntry) :
    (s.setEntries es).view.entries = es := rfl

@[simp] theorem State.setEntries_held (es : List PeerEntry) :
    (s.setEntries es).view.held = s.view.held := rfl

@[simp] theorem State.setEntries_verdicts (es : List PeerEntry) :
    (s.setEntries es).verdicts = s.verdicts := rfl

@[simp] theorem State.setEntries_classes (es : List PeerEntry) :
    (s.setEntries es).classes = s.classes := rfl

@[simp] theorem State.setEntries_mux (es : List PeerEntry) :
    (s.setEntries es).mux = s.mux := rfl

@[simp] theorem State.setEntries_ctl (es : List PeerEntry) :
    (s.setEntries es).ctl = s.ctl := rfl

@[simp] theorem State.setEntries_pending (es : List PeerEntry) :
    (s.setEntries es).pending = s.pending := rfl

/-! ## Settings, time and gates read the station controller alone -/

theorem settings_of_ctl {s t : State} (h : t.ctl = s.ctl) : settings t = settings s := by
  simp [settings, h]

theorem now_of_ctl {s t : State} (h : t.ctl = s.ctl) : now t = now s := by simp [now, h]

theorem clock_of_ctl {s t : State} (h : t.ctl = s.ctl) : clock t = clock s := by simp [clock, h]

@[simp] theorem clock_time : (clock s).time = s.ctl.time := rfl

@[simp] theorem clock_micros : (clock s).micros = s.ctl.micros := rfl

/-- When an instant has come: station times compare modulo 2^32, and microseconds within one millisecond. -/
theorem ranOut_iff (now due : Instant) :
    ranOut now due = true ↔
      (now.time - due.time).toNat < 2 ^ 31 ∧ (now.time = due.time → due.micros ≤ now.micros) := by
  simp [ranOut, reached, or_iff_not_imp_left]

theorem healthGapOver_iff :
    healthGapOver s = true ↔ ∀ u, s.bus.lastHealthEnd = some u →
      20000 + u.micros ≤ (s.ctl.time - u.time).toNat * 1000 + s.ctl.micros := by
  unfold healthGapOver
  split
  · rename_i h; simp [h]
  · rename_i u h
    rw [decide_eq_true_iff]
    exact ⟨fun g v hv => by cases h.symm.trans hv; exact g, fun g => g u h⟩

theorem awake_of_ctl {s t : State} (h : t.ctl = s.ctl) : awake t = awake s := by simp [awake, h]

theorem steers_of_ctl {s t : State} (h : t.ctl = s.ctl) : steers t = steers s := by simp [steers, h]

/-! ## Reset -/

/-- `State.reset` is what a cold reset with the pins of `Config.resetPins` leaves, with an empty queue. -/
theorem State.coldReset_resetPins :
    coldReset Config.resetPins s = { State.reset with pending := s.pending } := rfl

end Sys2Proof.Machine
end

