-- ==== Sys2Proof/Laws/Ops.lean ====
section
/-! SUPPORT. What the shared operations of Machine/Ops.lean can do: for each, the fields of State it leaves as they
are, and one lemma on what it makes of the rest. -/

namespace Sys2Proof.Machine

variable (s : State)

/-! ## A HEALTH becomes due -/

@[simp] theorem healthDue_lanes :
    (healthDue s).lanes = s.lanes := by
  unfold healthDue; split <;> [rfl; split <;> rfl]

@[simp] theorem healthDue_epoch :
    (healthDue s).epoch = s.epoch := by
  unfold healthDue; split <;> [rfl; split <;> rfl]

@[simp] theorem healthDue_ports :
    (healthDue s).ports = s.ports := by
  unfold healthDue; split <;> [rfl; split <;> rfl]

@[simp] theorem healthDue_opinions :
    (healthDue s).opinions = s.opinions := by
  unfold healthDue; split <;> [rfl; split <;> rfl]

@[simp] theorem healthDue_beacon :
    (healthDue s).beacon = s.beacon := by
  unfold healthDue; split <;> [rfl; split <;> rfl]

@[simp] theorem healthDue_view :
    (healthDue s).view = s.view := by
  unfold healthDue; split <;> [rfl; split <;> rfl]

@[simp] theorem healthDue_verdicts :
    (healthDue s).verdicts = s.verdicts := by
  unfold healthDue; split <;> [rfl; split <;> rfl]

@[simp] theorem healthDue_classes :
    (healthDue s).classes = s.classes := by
  unfold healthDue; split <;> [rfl; split <;> rfl]

@[simp] theorem healthDue_mux :
    (healthDue s).mux = s.mux := by
  unfold healthDue; split <;> [rfl; split <;> rfl]

@[simp] theorem healthDue_ctl :
    (healthDue s).ctl = s.ctl := by
  unfold healthDue; split <;> [rfl; split <;> rfl]

@[simp] theorem healthDue_pending :
    (healthDue s).pending = s.pending := by
  unfold healthDue; split <;> [rfl; split <;> rfl]

/-- A HEALTH due signal writes the queue and the HEALTH-due mark alone. -/
theorem healthDue_bus :
    (healthDue s).bus =
      { s.bus with
        queue := if sendingHealth s || hasHealth s then s.bus.queue else s.bus.queue ++ [.health]
        dueMark := sendingHealth s || s.bus.dueMark } := by
  unfold healthDue
  by_cases h : sendingHealth s = true <;> by_cases h' : hasHealth s = true <;> simp [h, h']

@[simp] theorem healthCause_lanes :
    (healthCause s).lanes = s.lanes := by
  unfold healthCause; split <;> simp

@[simp] theorem healthCause_epoch :
    (healthCause s).epoch = s.epoch := by
  unfold healthCause; split <;> simp

@[simp] theorem healthCause_ports :
    (healthCause s).ports = s.ports := by
  unfold healthCause; split <;> simp

@[simp] theorem healthCause_opinions :
    (healthCause s).opinions = s.opinions := by
  unfold healthCause; split <;> simp

@[simp] theorem healthCause_beacon :
    (healthCause s).beacon = s.beacon := by
  unfold healthCause; split <;> simp

@[simp] theorem healthCause_view :
    (healthCause s).view = s.view := by
  unfold healthCause; split <;> simp

@[simp] theorem healthCause_verdicts :
    (healthCause s).verdicts = s.verdicts := by
  unfold healthCause; split <;> simp

@[simp] theorem healthCause_classes :
    (healthCause s).classes = s.classes := by
  unfold healthCause; split <;> simp

@[simp] theorem healthCause_mux :
    (healthCause s).mux = s.mux := by
  unfold healthCause; split <;> simp

@[simp] theorem healthCause_ctl :
    (healthCause s).ctl = s.ctl := by
  unfold healthCause; split <;> simp

@[simp] theorem healthCause_pending :
    (healthCause s).pending = s.pending := by
  unfold healthCause; split <;> simp

/-- A cause under the gate of R76 is a HEALTH due signal; any other is dropped. -/
theorem healthCause_eq : healthCause s = if healthGate s then healthDue s else s := rfl

@[simp] theorem startBeacon_lanes :
    (startBeacon s).lanes = s.lanes := by
  rfl

@[simp] theorem startBeacon_epoch :
    (startBeacon s).epoch = s.epoch := by
  rfl

@[simp] theorem startBeacon_ports :
    (startBeacon s).ports = s.ports := by
  rfl

@[simp] theorem startBeacon_opinions :
    (startBeacon s).opinions = s.opinions := by
  rfl

@[simp] theorem startBeacon_bus :
    (startBeacon s).bus = s.bus := by
  rfl

@[simp] theorem startBeacon_view :
    (startBeacon s).view = s.view := by
  rfl

@[simp] theorem startBeacon_verdicts :
    (startBeacon s).verdicts = s.verdicts := by
  rfl

@[simp] theorem startBeacon_classes :
    (startBeacon s).classes = s.classes := by
  rfl

@[simp] theorem startBeacon_mux :
    (startBeacon s).mux = s.mux := by
  rfl

@[simp] theorem startBeacon_ctl :
    (startBeacon s).ctl = s.ctl := by
  rfl

@[simp] theorem startBeacon_pending :
    (startBeacon s).pending = s.pending := by
  rfl

@[simp] theorem startBeacon_beacon :
    (startBeacon s).beacon = startTimer (clock s) ((settings s).beacon * 10) := rfl

/-! ## Silencing -/

@[simp] theorem silence_lanes :
    (silence s).lanes = s.lanes := by
  unfold silence; split <;> rfl

@[simp] theorem silence_epoch :
    (silence s).epoch = s.epoch := by
  unfold silence; split <;> rfl

@[simp] theorem silence_ports :
    (silence s).ports = s.ports := by
  unfold silence; split <;> rfl

@[simp] theorem silence_opinions :
    (silence s).opinions = s.opinions := by
  unfold silence; split <;> rfl

@[simp] theorem silence_view :
    (silence s).view = s.view := by
  unfold silence; split <;> rfl

@[simp] theorem silence_verdicts :
    (silence s).verdicts = s.verdicts := by
  unfold silence; split <;> rfl

@[simp] theorem silence_classes :
    (silence s).classes = s.classes := by
  unfold silence; split <;> rfl

@[simp] theorem silence_mux :
    (silence s).mux = s.mux := by
  unfold silence; split <;> rfl

@[simp] theorem silence_pending :
    (silence s).pending = s.pending := by
  unfold silence; split <;> rfl

@[simp] theorem silence_ctl : (silence s).ctl = { s.ctl with silenced := true } := by
  unfold silence
  split
  · rename_i h
    cases hc : s.ctl
    simp_all
  · rfl

theorem silence_beacon : (silence s).beacon = if s.ctl.silenced then s.beacon else .stopped := by
  unfold silence; split <;> simp_all

theorem silence_bus :
    (silence s).bus =
      { s.bus with
        queue := if s.ctl.silenced then s.bus.queue
          else s.bus.queue.filter fun e => !e.isHealth } := by
  unfold silence; split <;> simp_all

/-! ## Recompute requests -/

@[simp] theorem startRecompute_lanes :
    (startRecompute s).lanes = s.lanes := by
  rfl

@[simp] theorem startRecompute_epoch :
    (startRecompute s).epoch = s.epoch := by
  rfl

@[simp] theorem startRecompute_ports :
    (startRecompute s).ports = s.ports := by
  rfl

@[simp] theorem startRecompute_opinions :
    (startRecompute s).opinions = s.opinions := by
  rfl

@[simp] theorem startRecompute_bus :
    (startRecompute s).bus = s.bus := by
  rfl

@[simp] theorem startRecompute_beacon :
    (startRecompute s).beacon = s.beacon := by
  rfl

@[simp] theorem startRecompute_view :
    (startRecompute s).view = s.view := by
  rfl

@[simp] theorem startRecompute_classes :
    (startRecompute s).classes = s.classes := by
  rfl

@[simp] theorem startRecompute_mux :
    (startRecompute s).mux = s.mux := by
  rfl

@[simp] theorem startRecompute_ctl :
    (startRecompute s).ctl = s.ctl := by
  rfl

@[simp] theorem startRecompute_pending :
    (startRecompute s).pending = s.pending := by
  rfl

/-- The start of a recompute leaves the verdict, the condition flag and the hold timer of every switch. -/
theorem startRecompute_switch (sw : SwitchId) :
    (startRecompute s).verdicts.switches.get sw =
      { s.verdicts.switches.get sw with
        opinionRead := s.opinions.get sw
        lastA := accusers s.view.entries sw
        lastK := clearers s.view.entries sw } := by
  simp [startRecompute, latchSwitch]

@[simp] theorem requestRecompute_lanes :
    (requestRecompute s).lanes = s.lanes := by
  unfold requestRecompute; split <;> simp

@[simp] theorem requestRecompute_epoch :
    (requestRecompute s).epoch = s.epoch := by
  unfold requestRecompute; split <;> simp

@[simp] theorem requestRecompute_ports :
    (requestRecompute s).ports = s.ports := by
  unfold requestRecompute; split <;> simp

@[simp] theorem requestRecompute_opinions :
    (requestRecompute s).opinions = s.opinions := by
  unfold requestRecompute; split <;> simp

@[simp] theorem requestRecompute_bus :
    (requestRecompute s).bus = s.bus := by
  unfold requestRecompute; split <;> simp

@[simp] theorem requestRecompute_beacon :
    (requestRecompute s).beacon = s.beacon := by
  unfold requestRecompute; split <;> simp

@[simp] theorem requestRecompute_view :
    (requestRecompute s).view = s.view := by
  unfold requestRecompute; split <;> simp

@[simp] theorem requestRecompute_classes :
    (requestRecompute s).classes = s.classes := by
  unfold requestRecompute; split <;> simp

@[simp] theorem requestRecompute_mux :
    (requestRecompute s).mux = s.mux := by
  unfold requestRecompute; split <;> simp

@[simp] theorem requestRecompute_ctl :
    (requestRecompute s).ctl = s.ctl := by
  unfold requestRecompute; split <;> simp

@[simp] theorem requestRecompute_pending :
    (requestRecompute s).pending = s.pending := by
  unfold requestRecompute; split <;> simp

@[simp] theorem requestRecompute_verdict (sw : SwitchId) :
    ((requestRecompute s).verdicts.switches.get sw).verdict =
      (s.verdicts.switches.get sw).verdict := by
  unfold requestRecompute; split <;> simp [startRecompute_switch]

@[simp] theorem requestRecompute_condition (sw : SwitchId) :
    ((requestRecompute s).verdicts.switches.get sw).condition =
      (s.verdicts.switches.get sw).condition := by
  unfold requestRecompute; split <;> simp [startRecompute_switch]

@[simp] theorem requestRecompute_holdTimer (sw : SwitchId) :
    ((requestRecompute s).verdicts.switches.get sw).holdTimer =
      (s.verdicts.switches.get sw).holdTimer := by
  unfold requestRecompute; split <;> simp [startRecompute_switch]

/-! ## The peer view table -/

theorem mem_erasePeer (entries : List PeerEntry) (id : Nat) (e : PeerEntry) :
    e ∈ erasePeer entries id ↔ e ∈ entries ∧ e.id ≠ id := by
  simp [erasePeer]

theorem mem_placePeer (entries : List PeerEntry) (e x : PeerEntry) :
    x ∈ placePeer entries e ↔ x = e ∨ x ∈ entries := by
  induction entries with
  | nil => simp [placePeer]
  | cons y ys ih =>
    unfold placePeer
    split
    · simp
    · simp only [List.mem_cons, ih]; tauto

/-- A stored entry replaces the one of its id; every other entry stays. -/
theorem mem_storePeer (entries : List PeerEntry) (e x : PeerEntry) :
    x ∈ storePeer entries e ↔ x = e ∨ (x ∈ entries ∧ x.id ≠ e.id) := by
  simp [storePeer, mem_placePeer, mem_erasePeer]

/-- An entry of a new id keeps the table in increasing id order. -/
theorem placePeer_increasing (entries : List PeerEntry) (e : PeerEntry)
    (h : (entries.map PeerEntry.id).Pairwise (· < ·)) (hn : ∀ x ∈ entries, x.id ≠ e.id) :
    ((placePeer entries e).map PeerEntry.id).Pairwise (· < ·) := by
  induction entries with
  | nil => simp [placePeer]
  | cons y ys ih =>
    simp only [List.map_cons, List.pairwise_cons, List.mem_map] at h
    have hy : y.id ≠ e.id := hn y (by simp)
    unfold placePeer
    split
    · rename_i hlt
      simp only [List.map_cons, List.pairwise_cons, List.mem_cons, List.mem_map]
      refine ⟨?_, ?_, h.2⟩
      · rintro a (rfl | ⟨x, hx, rfl⟩)
        · exact hlt
        · exact lt_trans hlt (h.1 _ ⟨x, hx, rfl⟩)
      · rintro a ⟨x, hx, rfl⟩
        exact h.1 _ ⟨x, hx, rfl⟩
    · simp only [List.map_cons, List.pairwise_cons, List.mem_map]
      refine ⟨?_, ih h.2 fun x hx => hn x (by simp [hx])⟩
      rintro a ⟨x, hx, rfl⟩
      rcases (mem_placePeer ys e x).mp hx with rfl | hx
      · omega
      · exact h.1 _ ⟨x, hx, rfl⟩

@[simp] theorem absorb_lanes (n : Notice) :
    (absorb n s).lanes = s.lanes := by
  rfl

@[simp] theorem absorb_epoch (n : Notice) :
    (absorb n s).epoch = s.epoch := by
  rfl

@[simp] theorem absorb_ports (n : Notice) :
    (absorb n s).ports = s.ports := by
  rfl

@[simp] theorem absorb_opinions (n : Notice) :
    (absorb n s).opinions = s.opinions := by
  rfl

@[simp] theorem absorb_beacon (n : Notice) :
    (absorb n s).beacon = s.beacon := by
  rfl

@[simp] theorem absorb_verdicts (n : Notice) :
    (absorb n s).verdicts = s.verdicts := by
  rfl

@[simp] theorem absorb_classes (n : Notice) :
    (absorb n s).classes = s.classes := by
  rfl

@[simp] theorem absorb_mux (n : Notice) :
    (absorb n s).mux = s.mux := by
  rfl

@[simp] theorem absorb_ctl (n : Notice) :
    (absorb n s).ctl = s.ctl := by
  rfl

@[simp] theorem absorb_pending (n : Notice) :
    (absorb n s).pending = s.pending := by
  rfl

@[simp] theorem peerStale_lanes (id : Nat) :
    (peerStale id s).lanes = s.lanes := by
  rfl

@[simp] theorem peerStale_epoch (id : Nat) :
    (peerStale id s).epoch = s.epoch := by
  rfl

@[simp] theorem peerStale_ports (id : Nat) :
    (peerStale id s).ports = s.ports := by
  rfl

@[simp] theorem peerStale_opinions (id : Nat) :
    (peerStale id s).opinions = s.opinions := by
  rfl

@[simp] theorem peerStale_bus (id : Nat) :
    (peerStale id s).bus = s.bus := by
  rfl

@[simp] theorem peerStale_beacon (id : Nat) :
    (peerStale id s).beacon = s.beacon := by
  rfl

@[simp] theorem peerStale_verdicts (id : Nat) :
    (peerStale id s).verdicts = s.verdicts := by
  rfl

@[simp] theorem peerStale_classes (id : Nat) :
    (peerStale id s).classes = s.classes := by
  rfl

@[simp] theorem peerStale_mux (id : Nat) :
    (peerStale id s).mux = s.mux := by
  rfl

@[simp] theorem peerStale_ctl (id : Nat) :
    (peerStale id s).ctl = s.ctl := by
  rfl

@[simp] theorem peerStale_pending (id : Nat) :
    (peerStale id s).pending = s.pending := by
  rfl

@[simp] theorem peerRemoved_lanes (id : Nat) :
    (peerRemoved id s).lanes = s.lanes := by
  rfl

@[simp] theorem peerRemoved_epoch (id : Nat) :
    (peerRemoved id s).epoch = s.epoch := by
  rfl

@[simp] theorem peerRemoved_ports (id : Nat) :
    (peerRemoved id s).ports = s.ports := by
  rfl

@[simp] theorem peerRemoved_opinions (id : Nat) :
    (peerRemoved id s).opinions = s.opinions := by
  rfl

@[simp] theorem peerRemoved_bus (id : Nat) :
    (peerRemoved id s).bus = s.bus := by
  rfl

@[simp] theorem peerRemoved_beacon (id : Nat) :
    (peerRemoved id s).beacon = s.beacon := by
  rfl

@[simp] theorem peerRemoved_verdicts (id : Nat) :
    (peerRemoved id s).verdicts = s.verdicts := by
  rfl

@[simp] theorem peerRemoved_classes (id : Nat) :
    (peerRemoved id s).classes = s.classes := by
  rfl

@[simp] theorem peerRemoved_mux (id : Nat) :
    (peerRemoved id s).mux = s.mux := by
  rfl

@[simp] theorem peerRemoved_ctl (id : Nat) :
    (peerRemoved id s).ctl = s.ctl := by
  rfl

@[simp] theorem peerRemoved_pending (id : Nat) :
    (peerRemoved id s).pending = s.pending := by
  rfl

@[simp] theorem holdExpiry_lanes (h : HeldExpiry) :
    (holdExpiry h s).lanes = s.lanes := by
  unfold holdExpiry; split <;> rfl

@[simp] theorem holdExpiry_epoch (h : HeldExpiry) :
    (holdExpiry h s).epoch = s.epoch := by
  unfold holdExpiry; split <;> rfl

@[simp] theorem holdExpiry_ports (h : HeldExpiry) :
    (holdExpiry h s).ports = s.ports := by
  unfold holdExpiry; split <;> rfl

@[simp] theorem holdExpiry_opinions (h : HeldExpiry) :
    (holdExpiry h s).opinions = s.opinions := by
  unfold holdExpiry; split <;> rfl

@[simp] theorem holdExpiry_bus (h : HeldExpiry) :
    (holdExpiry h s).bus = s.bus := by
  unfold holdExpiry; split <;> rfl

@[simp] theorem holdExpiry_beacon (h : HeldExpiry) :
    (holdExpiry h s).beacon = s.beacon := by
  unfold holdExpiry; split <;> rfl

@[simp] theorem holdExpiry_verdicts (h : HeldExpiry) :
    (holdExpiry h s).verdicts = s.verdicts := by
  unfold holdExpiry; split <;> rfl

@[simp] theorem holdExpiry_classes (h : HeldExpiry) :
    (holdExpiry h s).classes = s.classes := by
  unfold holdExpiry; split <;> rfl

@[simp] theorem holdExpiry_mux (h : HeldExpiry) :
    (holdExpiry h s).mux = s.mux := by
  unfold holdExpiry; split <;> rfl

@[simp] theorem holdExpiry_ctl (h : HeldExpiry) :
    (holdExpiry h s).ctl = s.ctl := by
  unfold holdExpiry; split <;> rfl

@[simp] theorem holdExpiry_pending (h : HeldExpiry) :
    (holdExpiry h s).pending = s.pending := by
  unfold holdExpiry; split <;> rfl

@[simp] theorem holdExpiry_entries (h : HeldExpiry) :
    (holdExpiry h s).view.entries = s.view.entries := by
  unfold holdExpiry; split <;> rfl

/-- A held expiry changes at most the entries of the peer view table. -/
theorem applyHeld_eq (h : HeldExpiry) :
    ∃ es, (applyHeld h s).1 = s.setEntries es := by
  unfold applyHeld
  cases h with
  | freshness id =>
    simp only
    split
    · exact ⟨_, rfl⟩
    · exact ⟨s.view.entries, rfl⟩
  | removal id =>
    simp only
    split
    · exact ⟨_, rfl⟩
    · exact ⟨s.view.entries, rfl⟩

/-- The held expiries together change at most the entries of the peer view table. -/
theorem applyAllHeld_eq (hs : List HeldExpiry) :
    ∃ es, (applyAllHeld hs s).1 = s.setEntries es := by
  induction hs generalizing s with
  | nil => exact ⟨s.view.entries, rfl⟩
  | cons h rest ih =>
    obtain ⟨es, he⟩ := applyHeld_eq s h
    obtain ⟨es', he'⟩ := ih (applyHeld h s).1
    exact ⟨es', by simp only [applyAllHeld]; rw [he', he]; rfl⟩

end Sys2Proof.Machine
end

