-- ==== Sys2Proof/Laws/Steer.lean ====
section
/-! SUPPORT. What the shared operations of Machine/Steer.lean can do: for each, the fields of State it leaves as they
are, and what it makes of the class records, the move queue and the steering port. -/

namespace Sys2Proof.Machine

variable (s : State)

/-! ## The output pins -/

@[simp] theorem QueueEntry.move_cls (e : QueueEntry) : e.move.cls = e.cls := rfl

@[simp] theorem QueueEntry.move_target (e : QueueEntry) : e.move.target = e.target := rfl

@[simp] theorem QueueEntry.move_mode (e : QueueEntry) : e.move.mode = e.kind.mode := rfl

theorem SteerPins.resting_iff (p : SteerPins) :
    p.resting = true ↔ p.setUp = 0 ∧ p.mreq = 0 ∧ p.mcan = 0 := by
  simp [SteerPins.resting, and_assoc]

/-- What a drive does to the output pins: it begins on pins that rest with none before it, or waits as the last. -/
theorem SteerPins.drive_cases (d : Drive) (p : SteerPins) :
    (p.resting = true ∧ p.waiting = [] ∧ p.drive d = p.start d) ∨
    (¬(p.resting = true ∧ p.waiting = []) ∧ p.drive d = { p with waiting := p.waiting ++ [d] }) := by
  unfold SteerPins.drive
  split <;> rename_i h <;> simp only [Bool.and_eq_true, List.isEmpty_iff] at h
  · exact .inl ⟨h.1, h.2, rfl⟩
  · exact .inr ⟨h, rfl⟩

/-! ## The move queue -/

theorem mem_insertEntry (e x : QueueEntry) (q : List QueueEntry) :
    x ∈ insertEntry e q ↔ x = e ∨ x ∈ q := by
  induction q with
  | nil => simp [insertEntry]
  | cons y ys ih =>
    unfold insertEntry
    split
    · simp
    · simp only [List.mem_cons, ih]; tauto

theorem mem_removeEntry (c : ClassId) (x : QueueEntry) (q : List QueueEntry) :
    x ∈ removeEntry c q ↔ x ∈ q ∧ x.cls ≠ c := by
  simp [removeEntry]

theorem findEntry_none (c : ClassId) (q : List QueueEntry) :
    findEntry c q = none ↔ ∀ x ∈ q, x.cls ≠ c := by
  simp [findEntry]

theorem findEntry_some {c : ClassId} {q : List QueueEntry} {e : QueueEntry}
    (h : findEntry c q = some e) : e ∈ q ∧ e.cls = c := by
  have h' := h
  unfold findEntry at h h'
  exact ⟨List.mem_of_find?_eq_some h, by simpa using List.find?_some h'⟩

theorem mem_replaceEntry {e x : QueueEntry} {q : List QueueEntry} (h : x ∈ replaceEntry e q) :
    x = e ∨ (x ∈ q ∧ x.cls ≠ e.cls) := by
  simp only [replaceEntry, List.mem_map] at h
  obtain ⟨y, hy, rfl⟩ := h
  split
  · exact .inl rfl
  · exact .inr ⟨hy, by assumption⟩

theorem replaceEntry_cls (e : QueueEntry) (q : List QueueEntry) :
    (replaceEntry e q).map QueueEntry.cls = q.map QueueEntry.cls := by
  simp only [replaceEntry, List.map_map]
  apply List.map_congr_left
  intro x _
  simp only [Function.comp]
  split <;> simp_all

/-- An entry of a class that the queue does not hold keeps one entry to a class. -/
theorem insertEntry_single {e : QueueEntry} {q : List QueueEntry}
    (h : (q.map QueueEntry.cls).Nodup) (hn : ∀ x ∈ q, x.cls ≠ e.cls) :
    ((insertEntry e q).map QueueEntry.cls).Nodup := by
  induction q with
  | nil => simp [insertEntry]
  | cons y ys ih =>
    simp only [List.map_cons, List.nodup_cons] at h
    unfold insertEntry
    split
    · simp only [List.map_cons, List.nodup_cons, List.mem_cons, List.mem_map]
      refine ⟨?_, ?_, h.2⟩
      · rintro (hc | ⟨x, hx, hc⟩)
        · exact hn y (by simp) hc.symm
        · exact hn x (by simp [hx]) hc
      · simpa using h.1
    · simp only [List.map_cons, List.nodup_cons]
      refine ⟨?_, ih h.2 fun x hx => hn x (by simp [hx])⟩
      intro hm
      obtain ⟨x, hx, hc⟩ := List.mem_map.mp hm
      rcases (mem_insertEntry e x ys).mp hx with rfl | hx
      · exact hn y (by simp) hc.symm
      · exact h.1 (List.mem_map.mpr ⟨x, hx, hc⟩)

/-- What the queue holds after an evaluation handed it a wanted move: the entry of the class, now with that kind and
target, and the entries of the other classes. -/
theorem mem_wantedQueue {c : ClassId} {k : MoveKind} {b : PortId} {x : QueueEntry}
    (h : x ∈ wantedQueue s c k b) :
    (x.cls = c ∧ x.kind = k ∧ x.target = b) ∨ (x ∈ s.mux.queue ∧ x.cls ≠ c) := by
  unfold wantedQueue at h
  split at h
  · rename_i hn
    rcases (mem_insertEntry _ _ _).mp h with rfl | h
    · exact .inl ⟨rfl, rfl, rfl⟩
    · exact .inr ⟨h, (findEntry_none _ _).mp hn x h⟩
  · rename_i e he
    have hc := (findEntry_some he).2
    split at h
    · rename_i hk
      rcases mem_replaceEntry h with rfl | h
      · exact .inl ⟨hc, hk, rfl⟩
      · exact .inr ⟨h.1, by simpa [hc] using h.2⟩
    · split at h
      · rcases mem_replaceEntry h with rfl | h
        · exact .inl ⟨hc, rfl, rfl⟩
        · exact .inr ⟨h.1, by simpa [rekindEntry, hc] using h.2⟩
      · rcases (mem_insertEntry _ _ _).mp h with rfl | h
        · exact .inl ⟨hc, rfl, rfl⟩
        · exact .inr ((mem_removeEntry _ _ _).mp h)

/-- A wanted move keeps one entry to a class (R128). -/
theorem wantedQueue_single {c : ClassId} {k : MoveKind} {b : PortId}
    (h : (s.mux.queue.map QueueEntry.cls).Nodup) :
    ((wantedQueue s c k b).map QueueEntry.cls).Nodup := by
  unfold wantedQueue
  split
  · rename_i hn
    exact insertEntry_single h ((findEntry_none _ _).mp hn)
  · rename_i e he
    split
    · rwa [replaceEntry_cls]
    · split
      · rwa [replaceEntry_cls]
      · refine insertEntry_single ?_ ?_
        · exact h.sublist (List.filter_sublist.map _)
        · intro x hx
          have hc := (findEntry_some he).2
          simpa [rekindEntry, hc] using ((mem_removeEntry _ _ _).mp hx).2

/-! ## Evaluation -/

@[simp] theorem wantMove_lanes (c : ClassId) (k : MoveKind) (b : PortId) :
    (wantMove c k b s).lanes = s.lanes := by
  rfl

@[simp] theorem wantMove_epoch (c : ClassId) (k : MoveKind) (b : PortId) :
    (wantMove c k b s).epoch = s.epoch := by
  rfl

@[simp] theorem wantMove_ports (c : ClassId) (k : MoveKind) (b : PortId) :
    (wantMove c k b s).ports = s.ports := by
  rfl

@[simp] theorem wantMove_opinions (c : ClassId) (k : MoveKind) (b : PortId) :
    (wantMove c k b s).opinions = s.opinions := by
  rfl

@[simp] theorem wantMove_bus (c : ClassId) (k : MoveKind) (b : PortId) :
    (wantMove c k b s).bus = s.bus := by
  rfl

@[simp] theorem wantMove_beacon (c : ClassId) (k : MoveKind) (b : PortId) :
    (wantMove c k b s).beacon = s.beacon := by
  rfl

@[simp] theorem wantMove_view (c : ClassId) (k : MoveKind) (b : PortId) :
    (wantMove c k b s).view = s.view := by
  rfl

@[simp] theorem wantMove_verdicts (c : ClassId) (k : MoveKind) (b : PortId) :
    (wantMove c k b s).verdicts = s.verdicts := by
  rfl

@[simp] theorem wantMove_classes (c : ClassId) (k : MoveKind) (b : PortId) :
    (wantMove c k b s).classes = s.classes := by
  rfl

@[simp] theorem wantMove_ctl (c : ClassId) (k : MoveKind) (b : PortId) :
    (wantMove c k b s).ctl = s.ctl := by
  rfl

@[simp] theorem wantMove_pending (c : ClassId) (k : MoveKind) (b : PortId) :
    (wantMove c k b s).pending = s.pending := by
  rfl

@[simp] theorem wantNoMove_lanes (c : ClassId) :
    (wantNoMove c s).lanes = s.lanes := by
  rfl

@[simp] theorem wantNoMove_epoch (c : ClassId) :
    (wantNoMove c s).epoch = s.epoch := by
  rfl

@[simp] theorem wantNoMove_ports (c : ClassId) :
    (wantNoMove c s).ports = s.ports := by
  rfl

@[simp] theorem wantNoMove_opinions (c : ClassId) :
    (wantNoMove c s).opinions = s.opinions := by
  rfl

@[simp] theorem wantNoMove_bus (c : ClassId) :
    (wantNoMove c s).bus = s.bus := by
  rfl

@[simp] theorem wantNoMove_beacon (c : ClassId) :
    (wantNoMove c s).beacon = s.beacon := by
  rfl

@[simp] theorem wantNoMove_view (c : ClassId) :
    (wantNoMove c s).view = s.view := by
  rfl

@[simp] theorem wantNoMove_verdicts (c : ClassId) :
    (wantNoMove c s).verdicts = s.verdicts := by
  rfl

@[simp] theorem wantNoMove_classes (c : ClassId) :
    (wantNoMove c s).classes = s.classes := by
  rfl

@[simp] theorem wantNoMove_ctl (c : ClassId) :
    (wantNoMove c s).ctl = s.ctl := by
  rfl

@[simp] theorem wantNoMove_pending (c : ClassId) :
    (wantNoMove c s).pending = s.pending := by
  rfl

@[simp] theorem setStatus_lanes (c : ClassId) (st : ClassStatus) :
    (setStatus c st s).lanes = s.lanes := by
  rfl

@[simp] theorem setStatus_epoch (c : ClassId) (st : ClassStatus) :
    (setStatus c st s).epoch = s.epoch := by
  rfl

@[simp] theorem setStatus_ports (c : ClassId) (st : ClassStatus) :
    (setStatus c st s).ports = s.ports := by
  rfl

@[simp] theorem setStatus_opinions (c : ClassId) (st : ClassStatus) :
    (setStatus c st s).opinions = s.opinions := by
  rfl

@[simp] theorem setStatus_bus (c : ClassId) (st : ClassStatus) :
    (setStatus c st s).bus = s.bus := by
  rfl

@[simp] theorem setStatus_beacon (c : ClassId) (st : ClassStatus) :
    (setStatus c st s).beacon = s.beacon := by
  rfl

@[simp] theorem setStatus_view (c : ClassId) (st : ClassStatus) :
    (setStatus c st s).view = s.view := by
  rfl

@[simp] theorem setStatus_verdicts (c : ClassId) (st : ClassStatus) :
    (setStatus c st s).verdicts = s.verdicts := by
  rfl

@[simp] theorem setStatus_mux (c : ClassId) (st : ClassStatus) :
    (setStatus c st s).mux = s.mux := by
  rfl

@[simp] theorem setStatus_ctl (c : ClassId) (st : ClassStatus) :
    (setStatus c st s).ctl = s.ctl := by
  rfl

@[simp] theorem setStatus_pending (c : ClassId) (st : ClassStatus) :
    (setStatus c st s).pending = s.pending := by
  rfl

@[simp] theorem actInActive_lanes (c : ClassId) (d : Decision) :
    (actInActive c d s).lanes = s.lanes := by
  cases d <;> rfl

@[simp] theorem actInActive_epoch (c : ClassId) (d : Decision) :
    (actInActive c d s).epoch = s.epoch := by
  cases d <;> rfl

@[simp] theorem actInActive_ports (c : ClassId) (d : Decision) :
    (actInActive c d s).ports = s.ports := by
  cases d <;> rfl

@[simp] theorem actInActive_opinions (c : ClassId) (d : Decision) :
    (actInActive c d s).opinions = s.opinions := by
  cases d <;> rfl

@[simp] theorem actInActive_bus (c : ClassId) (d : Decision) :
    (actInActive c d s).bus = s.bus := by
  cases d <;> rfl

@[simp] theorem actInActive_beacon (c : ClassId) (d : Decision) :
    (actInActive c d s).beacon = s.beacon := by
  cases d <;> rfl

@[simp] theorem actInActive_view (c : ClassId) (d : Decision) :
    (actInActive c d s).view = s.view := by
  cases d <;> rfl

@[simp] theorem actInActive_verdicts (c : ClassId) (d : Decision) :
    (actInActive c d s).verdicts = s.verdicts := by
  cases d <;> rfl

@[simp] theorem actInActive_ctl (c : ClassId) (d : Decision) :
    (actInActive c d s).ctl = s.ctl := by
  cases d <;> rfl

@[simp] theorem actInActive_pending (c : ClassId) (d : Decision) :
    (actInActive c d s).pending = s.pending := by
  cases d <;> rfl

@[simp] theorem actInJoining_lanes (c : ClassId) (d : Decision) :
    (actInJoining c d s).lanes = s.lanes := by
  cases d <;> rfl

@[simp] theorem actInJoining_epoch (c : ClassId) (d : Decision) :
    (actInJoining c d s).epoch = s.epoch := by
  cases d <;> rfl

@[simp] theorem actInJoining_ports (c : ClassId) (d : Decision) :
    (actInJoining c d s).ports = s.ports := by
  cases d <;> rfl

@[simp] theorem actInJoining_opinions (c : ClassId) (d : Decision) :
    (actInJoining c d s).opinions = s.opinions := by
  cases d <;> rfl

@[simp] theorem actInJoining_bus (c : ClassId) (d : Decision) :
    (actInJoining c d s).bus = s.bus := by
  cases d <;> rfl

@[simp] theorem actInJoining_beacon (c : ClassId) (d : Decision) :
    (actInJoining c d s).beacon = s.beacon := by
  cases d <;> rfl

@[simp] theorem actInJoining_view (c : ClassId) (d : Decision) :
    (actInJoining c d s).view = s.view := by
  cases d <;> rfl

@[simp] theorem actInJoining_verdicts (c : ClassId) (d : Decision) :
    (actInJoining c d s).verdicts = s.verdicts := by
  cases d <;> rfl

@[simp] theorem actInJoining_ctl (c : ClassId) (d : Decision) :
    (actInJoining c d s).ctl = s.ctl := by
  cases d <;> rfl

@[simp] theorem actInJoining_pending (c : ClassId) (d : Decision) :
    (actInJoining c d s).pending = s.pending := by
  cases d <;> rfl

@[simp] theorem evaluate_lanes (c : ClassId) :
    (evaluate c s).lanes = s.lanes := by
  unfold evaluate; split <;> [split <;> simp; rfl]

@[simp] theorem evaluate_epoch (c : ClassId) :
    (evaluate c s).epoch = s.epoch := by
  unfold evaluate; split <;> [split <;> simp; rfl]

@[simp] theorem evaluate_ports (c : ClassId) :
    (evaluate c s).ports = s.ports := by
  unfold evaluate; split <;> [split <;> simp; rfl]

@[simp] theorem evaluate_opinions (c : ClassId) :
    (evaluate c s).opinions = s.opinions := by
  unfold evaluate; split <;> [split <;> simp; rfl]

@[simp] theorem evaluate_bus (c : ClassId) :
    (evaluate c s).bus = s.bus := by
  unfold evaluate; split <;> [split <;> simp; rfl]

@[simp] theorem evaluate_beacon (c : ClassId) :
    (evaluate c s).beacon = s.beacon := by
  unfold evaluate; split <;> [split <;> simp; rfl]

@[simp] theorem evaluate_view (c : ClassId) :
    (evaluate c s).view = s.view := by
  unfold evaluate; split <;> [split <;> simp; rfl]

@[simp] theorem evaluate_verdicts (c : ClassId) :
    (evaluate c s).verdicts = s.verdicts := by
  unfold evaluate; split <;> [split <;> simp; rfl]

@[simp] theorem evaluate_ctl (c : ClassId) :
    (evaluate c s).ctl = s.ctl := by
  unfold evaluate; split <;> [split <;> simp; rfl]

@[simp] theorem evaluate_pending (c : ClassId) :
    (evaluate c s).pending = s.pending := by
  unfold evaluate; split <;> [split <;> simp; rfl]

/-- An evaluation writes the status of its class alone, and of the steering port controller the move queue alone. -/
theorem evaluate_classes (c : ClassId) :
    ∃ st, (evaluate c s).classes = s.classes.set c { s.classes.get c with status := st } := by
  have hs : s.classes = s.classes.set c { s.classes.get c with status := (s.classes.get c).status } :=
    (Eight.set_get _ _).symm
  unfold evaluate
  split
  · split
    · unfold actInActive; split <;> exact ⟨_, rfl⟩
    · unfold actInJoining
      split <;> first | exact ⟨_, rfl⟩ | exact ⟨_, hs⟩
  · exact ⟨_, hs⟩

theorem evaluate_mux (c : ClassId) :
    (evaluate c s).mux = { s.mux with queue := (evaluate c s).mux.queue } := by
  unfold evaluate
  split
  · split
    · unfold actInActive; split <;> rfl
    · unfold actInJoining; split <;> rfl
  · rfl

/-- What an evaluation keeps of every class record: the list, the current port, the target port and the barred set. -/
theorem evaluate_kept (c k : ClassId) :
    ((evaluate c s).classes.get k).prefs = (s.classes.get k).prefs ∧
    ((evaluate c s).classes.get k).current = (s.classes.get k).current ∧
    ((evaluate c s).classes.get k).target = (s.classes.get k).target ∧
    ((evaluate c s).classes.get k).barred = (s.classes.get k).barred := by
  obtain ⟨st, h⟩ := evaluate_classes s c
  rw [h, Eight.get_set]
  split
  · subst_vars; exact ⟨rfl, rfl, rfl, rfl⟩
  · exact ⟨rfl, rfl, rfl, rfl⟩

/-- An evaluation leaves the record of every other class. -/
theorem evaluate_other {c k : ClassId} (h : k ≠ c) :
    (evaluate c s).classes.get k = s.classes.get k := by
  obtain ⟨st, hc⟩ := evaluate_classes s c
  rw [hc, Eight.get_set_other _ _ h]

/-- A property that every evaluation keeps is kept by the evaluation of all classes. -/
theorem evaluateAll_keeps (P : State → Prop) (h : ∀ c t, P t → P (evaluate c t)) (hs : P s) :
    P (evaluateAll s) := by
  unfold evaluateAll
  generalize allClasses = l
  induction l generalizing s with
  | nil => exact hs
  | cons c l ih => exact ih (evaluate c s) (h c s hs)

@[simp] theorem evaluateAll_lanes : (evaluateAll s).lanes = s.lanes :=
  evaluateAll_keeps s (fun t => t.lanes = s.lanes) (by intro c t h; simpa using h) rfl

@[simp] theorem evaluateAll_epoch : (evaluateAll s).epoch = s.epoch :=
  evaluateAll_keeps s (fun t => t.epoch = s.epoch) (by intro c t h; simpa using h) rfl

@[simp] theorem evaluateAll_ports : (evaluateAll s).ports = s.ports :=
  evaluateAll_keeps s (fun t => t.ports = s.ports) (by intro c t h; simpa using h) rfl

@[simp] theorem evaluateAll_opinions : (evaluateAll s).opinions = s.opinions :=
  evaluateAll_keeps s (fun t => t.opinions = s.opinions) (by intro c t h; simpa using h) rfl

@[simp] theorem evaluateAll_bus : (evaluateAll s).bus = s.bus :=
  evaluateAll_keeps s (fun t => t.bus = s.bus) (by intro c t h; simpa using h) rfl

@[simp] theorem evaluateAll_beacon : (evaluateAll s).beacon = s.beacon :=
  evaluateAll_keeps s (fun t => t.beacon = s.beacon) (by intro c t h; simpa using h) rfl

@[simp] theorem evaluateAll_view : (evaluateAll s).view = s.view :=
  evaluateAll_keeps s (fun t => t.view = s.view) (by intro c t h; simpa using h) rfl

@[simp] theorem evaluateAll_verdicts : (evaluateAll s).verdicts = s.verdicts :=
  evaluateAll_keeps s (fun t => t.verdicts = s.verdicts) (by intro c t h; simpa using h) rfl

@[simp] theorem evaluateAll_ctl : (evaluateAll s).ctl = s.ctl :=
  evaluateAll_keeps s (fun t => t.ctl = s.ctl) (by intro c t h; simpa using h) rfl

@[simp] theorem evaluateAll_pending : (evaluateAll s).pending = s.pending :=
  evaluateAll_keeps s (fun t => t.pending = s.pending) (by intro c t h; simpa using h) rfl

theorem evaluateAll_mux :
    (evaluateAll s).mux = { s.mux with queue := (evaluateAll s).mux.queue } :=
  evaluateAll_keeps s (fun t => t.mux = { s.mux with queue := t.mux.queue })
    (by intro c t h; rw [evaluate_mux, h]) rfl

theorem evaluateAll_kept (k : ClassId) :
    ((evaluateAll s).classes.get k).prefs = (s.classes.get k).prefs ∧
    ((evaluateAll s).classes.get k).current = (s.classes.get k).current ∧
    ((evaluateAll s).classes.get k).target = (s.classes.get k).target ∧
    ((evaluateAll s).classes.get k).barred = (s.classes.get k).barred :=
  evaluateAll_keeps s
    (fun t => (t.classes.get k).prefs = (s.classes.get k).prefs ∧
      (t.classes.get k).current = (s.classes.get k).current ∧
      (t.classes.get k).target = (s.classes.get k).target ∧
      (t.classes.get k).barred = (s.classes.get k).barred)
    (by intro c t h; obtain ⟨a, b, d, e⟩ := evaluate_kept t c k; simp [a, b, d, e, h])
    ⟨rfl, rfl, rfl, rfl⟩

/-! ## Issue -/

@[simp] theorem issueEntry_lanes (e : QueueEntry) :
    (issueEntry e s).lanes = s.lanes := by
  rfl

@[simp] theorem issueEntry_epoch (e : QueueEntry) :
    (issueEntry e s).epoch = s.epoch := by
  rfl

@[simp] theorem issueEntry_ports (e : QueueEntry) :
    (issueEntry e s).ports = s.ports := by
  rfl

@[simp] theorem issueEntry_opinions (e : QueueEntry) :
    (issueEntry e s).opinions = s.opinions := by
  rfl

@[simp] theorem issueEntry_bus (e : QueueEntry) :
    (issueEntry e s).bus = s.bus := by
  rfl

@[simp] theorem issueEntry_beacon (e : QueueEntry) :
    (issueEntry e s).beacon = s.beacon := by
  rfl

@[simp] theorem issueEntry_view (e : QueueEntry) :
    (issueEntry e s).view = s.view := by
  rfl

@[simp] theorem issueEntry_verdicts (e : QueueEntry) :
    (issueEntry e s).verdicts = s.verdicts := by
  rfl

@[simp] theorem issueEntry_ctl (e : QueueEntry) :
    (issueEntry e s).ctl = s.ctl := by
  rfl

@[simp] theorem issueEntry_pending (e : QueueEntry) :
    (issueEntry e s).pending = s.pending := by
  rfl

@[simp] theorem issueTest_lanes :
    (issueTest s).lanes = s.lanes := by
  unfold issueTest; split <;> rfl

@[simp] theorem issueTest_epoch :
    (issueTest s).epoch = s.epoch := by
  unfold issueTest; split <;> rfl

@[simp] theorem issueTest_ports :
    (issueTest s).ports = s.ports := by
  unfold issueTest; split <;> rfl

@[simp] theorem issueTest_opinions :
    (issueTest s).opinions = s.opinions := by
  unfold issueTest; split <;> rfl

@[simp] theorem issueTest_bus :
    (issueTest s).bus = s.bus := by
  unfold issueTest; split <;> rfl

@[simp] theorem issueTest_beacon :
    (issueTest s).beacon = s.beacon := by
  unfold issueTest; split <;> rfl

@[simp] theorem issueTest_view :
    (issueTest s).view = s.view := by
  unfold issueTest; split <;> rfl

@[simp] theorem issueTest_verdicts :
    (issueTest s).verdicts = s.verdicts := by
  unfold issueTest; split <;> rfl

@[simp] theorem issueTest_ctl :
    (issueTest s).ctl = s.ctl := by
  unfold issueTest; split <;> rfl

@[simp] theorem issueTest_pending :
    (issueTest s).pending = s.pending := by
  unfold issueTest; split <;> rfl

/-- What the issue test keeps of every class record: the list, the current port and the barred set. -/
theorem issueTest_kept (k : ClassId) :
    ((issueTest s).classes.get k).prefs = (s.classes.get k).prefs ∧
    ((issueTest s).classes.get k).current = (s.classes.get k).current ∧
    ((issueTest s).classes.get k).barred = (s.classes.get k).barred := by
  unfold issueTest
  split
  · simp only [issueEntry, Eight.get_set]
    split
    · subst_vars; exact ⟨rfl, rfl, rfl⟩
    · exact ⟨rfl, rfl, rfl⟩
  · exact ⟨rfl, rfl, rfl⟩

theorem issueTest_mrdy : (issueTest s).mux.mrdy = s.mux.mrdy := by
  unfold issueTest; split <;> rfl

/-- An issue starts from READY and leads to AWAIT. -/
theorem issueTest_port :
    (issueTest s).mux.port = s.mux.port ∨
      (s.mux.port = .ready ∧ (issueTest s).mux.port = .await) := by
  unfold issueTest
  split
  · rename_i e he
    right
    unfold issuable at he
    split at he
    · rename_i h
      exact ⟨by simp_all, rfl⟩
    · cases he
  · exact .inl rfl

/-! ## Cancel and the end of a move -/

@[simp] theorem sendCancel_lanes :
    (sendCancel s).lanes = s.lanes := by
  rfl

@[simp] theorem sendCancel_epoch :
    (sendCancel s).epoch = s.epoch := by
  rfl

@[simp] theorem sendCancel_ports :
    (sendCancel s).ports = s.ports := by
  rfl

@[simp] theorem sendCancel_opinions :
    (sendCancel s).opinions = s.opinions := by
  rfl

@[simp] theorem sendCancel_bus :
    (sendCancel s).bus = s.bus := by
  rfl

@[simp] theorem sendCancel_beacon :
    (sendCancel s).beacon = s.beacon := by
  rfl

@[simp] theorem sendCancel_view :
    (sendCancel s).view = s.view := by
  rfl

@[simp] theorem sendCancel_verdicts :
    (sendCancel s).verdicts = s.verdicts := by
  rfl

@[simp] theorem sendCancel_classes :
    (sendCancel s).classes = s.classes := by
  rfl

@[simp] theorem sendCancel_ctl :
    (sendCancel s).ctl = s.ctl := by
  rfl

@[simp] theorem sendCancel_pending :
    (sendCancel s).pending = s.pending := by
  rfl

@[simp] theorem cancelTrigger_lanes (p : PortId) :
    (cancelTrigger p s).lanes = s.lanes := by
  unfold cancelTrigger; split <;> [split <;> rfl; rfl]

@[simp] theorem cancelTrigger_epoch (p : PortId) :
    (cancelTrigger p s).epoch = s.epoch := by
  unfold cancelTrigger; split <;> [split <;> rfl; rfl]

@[simp] theorem cancelTrigger_ports (p : PortId) :
    (cancelTrigger p s).ports = s.ports := by
  unfold cancelTrigger; split <;> [split <;> rfl; rfl]

@[simp] theorem cancelTrigger_opinions (p : PortId) :
    (cancelTrigger p s).opinions = s.opinions := by
  unfold cancelTrigger; split <;> [split <;> rfl; rfl]

@[simp] theorem cancelTrigger_bus (p : PortId) :
    (cancelTrigger p s).bus = s.bus := by
  unfold cancelTrigger; split <;> [split <;> rfl; rfl]

@[simp] theorem cancelTrigger_beacon (p : PortId) :
    (cancelTrigger p s).beacon = s.beacon := by
  unfold cancelTrigger; split <;> [split <;> rfl; rfl]

@[simp] theorem cancelTrigger_view (p : PortId) :
    (cancelTrigger p s).view = s.view := by
  unfold cancelTrigger; split <;> [split <;> rfl; rfl]

@[simp] theorem cancelTrigger_verdicts (p : PortId) :
    (cancelTrigger p s).verdicts = s.verdicts := by
  unfold cancelTrigger; split <;> [split <;> rfl; rfl]

@[simp] theorem cancelTrigger_classes (p : PortId) :
    (cancelTrigger p s).classes = s.classes := by
  unfold cancelTrigger; split <;> [split <;> rfl; rfl]

@[simp] theorem cancelTrigger_ctl (p : PortId) :
    (cancelTrigger p s).ctl = s.ctl := by
  unfold cancelTrigger; split <;> [split <;> rfl; rfl]

@[simp] theorem cancelTrigger_pending (p : PortId) :
    (cancelTrigger p s).pending = s.pending := by
  unfold cancelTrigger; split <;> [split <;> rfl; rfl]

theorem cancelTrigger_queue (p : PortId) : (cancelTrigger p s).mux.queue = s.mux.queue := by
  unfold cancelTrigger; split <;> [split <;> rfl; rfl]

theorem cancelTrigger_outstanding (p : PortId) :
    (cancelTrigger p s).mux.outstanding = s.mux.outstanding := by
  unfold cancelTrigger; split <;> [split <;> rfl; rfl]

@[simp] theorem finishMove_lanes (c : ClassId) (r : ClassRecord) :
    (finishMove c r s).lanes = s.lanes := by
  simp [finishMove]

@[simp] theorem finishMove_epoch (c : ClassId) (r : ClassRecord) :
    (finishMove c r s).epoch = s.epoch := by
  simp [finishMove]

@[simp] theorem finishMove_ports (c : ClassId) (r : ClassRecord) :
    (finishMove c r s).ports = s.ports := by
  simp [finishMove]

@[simp] theorem finishMove_opinions (c : ClassId) (r : ClassRecord) :
    (finishMove c r s).opinions = s.opinions := by
  simp [finishMove]

@[simp] theorem finishMove_bus (c : ClassId) (r : ClassRecord) :
    (finishMove c r s).bus = s.bus := by
  simp [finishMove]

@[simp] theorem finishMove_beacon (c : ClassId) (r : ClassRecord) :
    (finishMove c r s).beacon = s.beacon := by
  simp [finishMove]

@[simp] theorem finishMove_view (c : ClassId) (r : ClassRecord) :
    (finishMove c r s).view = s.view := by
  simp [finishMove]

@[simp] theorem finishMove_verdicts (c : ClassId) (r : ClassRecord) :
    (finishMove c r s).verdicts = s.verdicts := by
  simp [finishMove]

@[simp] theorem finishMove_ctl (c : ClassId) (r : ClassRecord) :
    (finishMove c r s).ctl = s.ctl := by
  simp [finishMove]

@[simp] theorem finishMove_pending (c : ClassId) (r : ClassRecord) :
    (finishMove c r s).pending = s.pending := by
  simp [finishMove]

/-- A move that ends leaves, of every class record but its status and target port, what the answer made of it. -/
theorem finishMove_kept (c : ClassId) (r : ClassRecord) (k : ClassId) :
    ((finishMove c r s).classes.get k).prefs = ((s.classes.set c r).get k).prefs ∧
    ((finishMove c r s).classes.get k).current = ((s.classes.set c r).get k).current ∧
    ((finishMove c r s).classes.get k).barred = ((s.classes.set c r).get k).barred := by
  unfold finishMove
  obtain ⟨a, b, d⟩ := issueTest_kept (evaluate c ((s.setClass c r).setMux (s.mux.endMove .ready))) k
  obtain ⟨a', b', _, d'⟩ := evaluate_kept ((s.setClass c r).setMux (s.mux.endMove .ready)) c k
  exact ⟨a.trans a', b.trans b', d.trans d'⟩

end Sys2Proof.Machine
end

