-- ==== Sys2Proof/Laws/Clock.lean ====
section
/-! SUPPORT. What a microsecond of the clock does to the output pins. -/

namespace Sys2Proof.Machine

variable (p : SteerPins)

@[simp] theorem SteerPins.count_mcls : p.count.mcls = p.mcls := rfl

@[simp] theorem SteerPins.count_mtgt : p.count.mtgt = p.mtgt := rfl

@[simp] theorem SteerPins.count_mmode : p.count.mmode = p.mmode := rfl

@[simp] theorem SteerPins.count_setUp : p.count.setUp = p.setUp - 1 := rfl

@[simp] theorem SteerPins.count_mreq :
    p.count.mreq = if p.setUp = 1 then strobeMicros else p.mreq - 1 := rfl

@[simp] theorem SteerPins.count_mcan : p.count.mcan = p.mcan - 1 := rfl

@[simp] theorem SteerPins.count_waiting : p.count.waiting = p.waiting := rfl

/-- The longest-waiting drive begins on pins that rest; pins with a drive in progress, or with none waiting, stay as
they are. -/
theorem SteerPins.next_cases :
    (∃ d rest, p.waiting = d :: rest ∧ p.resting = true ∧
      p.next = SteerPins.start d { p with waiting := rest }) ∨
    ((p.waiting = [] ∨ p.resting = false) ∧ p.next = p) := by
  unfold SteerPins.next
  split
  · rename_i h; exact .inr ⟨.inl h, rfl⟩
  · rename_i d rest h
    split
    · exact .inl ⟨d, rest, h, by assumption, rfl⟩
    · exact .inr ⟨.inr (by simpa using ‹¬p.resting = true›), rfl⟩

end Sys2Proof.Machine
end

