-- ==== Sys2Proof/Laws/Ports.lean ====
section
/-! SUPPORT. What the shared operations of Machine/Ports.lean can do: for each, the fields of State it leaves as they
are, and what it makes of the lanes, the port records, the opinions and the station state. -/

namespace Sys2Proof.Machine

variable (s : State)

/-! ## Entry to JOINING and to ACTIVE -/

@[simp] theorem enterActive_lanes :
    (enterActive s).lanes = s.lanes := by
  simp [enterActive]

@[simp] theorem enterActive_epoch :
    (enterActive s).epoch = s.epoch := by
  simp [enterActive]

@[simp] theorem enterActive_ports :
    (enterActive s).ports = s.ports := by
  simp [enterActive]

@[simp] theorem enterActive_opinions :
    (enterActive s).opinions = s.opinions := by
  simp [enterActive]

@[simp] theorem enterActive_beacon :
    (enterActive s).beacon = s.beacon := by
  simp [enterActive]

@[simp] theorem enterActive_view :
    (enterActive s).view = s.view := by
  simp [enterActive]

@[simp] theorem enterActive_verdicts :
    (enterActive s).verdicts = s.verdicts := by
  simp [enterActive]

@[simp] theorem enterActive_pending :
    (enterActive s).pending = s.pending := by
  simp [enterActive]

@[simp] theorem enterActive_ctl :
    (enterActive s).ctl = { s.ctl with state := .active, joinTime := .stopped } := by
  simp [enterActive]

@[simp] theorem enterJoining_lanes :
    (enterJoining s).lanes = s.lanes := by
  simp only [enterJoining]; split <;> simp

@[simp] theorem enterJoining_epoch :
    (enterJoining s).epoch = s.epoch := by
  simp only [enterJoining]; split <;> simp

@[simp] theorem enterJoining_ports :
    (enterJoining s).ports = s.ports := by
  simp only [enterJoining]; split <;> simp

@[simp] theorem enterJoining_opinions :
    (enterJoining s).opinions = s.opinions := by
  simp only [enterJoining]; split <;> simp

@[simp] theorem enterJoining_view :
    (enterJoining s).view = s.view := by
  simp only [enterJoining]; split <;> simp

@[simp] theorem enterJoining_verdicts :
    (enterJoining s).verdicts = s.verdicts := by
  simp only [enterJoining]; split <;> simp

@[simp] theorem enterJoining_pending :
    (enterJoining s).pending = s.pending := by
  simp only [enterJoining]; split <;> simp

@[simp] theorem enterJoining_ctl :
    (enterJoining s).ctl =
      { s.ctl with
        state := .joining
        joinTime := startTimer (clock s) ((settings s).joinTime * 100) } := by
  simp only [enterJoining]; split <;> simp

@[simp] theorem joiningTest_lanes :
    (joiningTest s).lanes = s.lanes := by
  unfold joiningTest; split <;> simp

@[simp] theorem joiningTest_epoch :
    (joiningTest s).epoch = s.epoch := by
  unfold joiningTest; split <;> simp

@[simp] theorem joiningTest_ports :
    (joiningTest s).ports = s.ports := by
  unfold joiningTest; split <;> simp

@[simp] theorem joiningTest_opinions :
    (joiningTest s).opinions = s.opinions := by
  unfold joiningTest; split <;> simp

@[simp] theorem joiningTest_beacon :
    (joiningTest s).beacon = s.beacon := by
  unfold joiningTest; split <;> simp

@[simp] theorem joiningTest_view :
    (joiningTest s).view = s.view := by
  unfold joiningTest; split <;> simp

@[simp] theorem joiningTest_verdicts :
    (joiningTest s).verdicts = s.verdicts := by
  unfold joiningTest; split <;> simp

@[simp] theorem joiningTest_pending :
    (joiningTest s).pending = s.pending := by
  unfold joiningTest; split <;> simp

/-- The port test of the joining window leaves the station as it is, or takes it from JOINING to ACTIVE. -/
theorem joiningTest_ctl :
    (joiningTest s).ctl = s.ctl ∨
      (s.ctl.state = .joining ∧
        (joiningTest s).ctl = { s.ctl with state := .active, joinTime := .stopped }) := by
  unfold joiningTest
  split
  · rename_i h
    exact .inr ⟨by simp_all, by simp⟩
  · exact .inl rfl

/-! ## Handing onward -/

@[simp] theorem rederive_lanes :
    (rederive s).lanes = s.lanes := by
  simp only [rederive]; split <;> simp

@[simp] theorem rederive_epoch :
    (rederive s).epoch = s.epoch := by
  simp only [rederive]; split <;> simp

@[simp] theorem rederive_ports :
    (rederive s).ports = s.ports := by
  simp only [rederive]; split <;> simp

@[simp] theorem rederive_beacon :
    (rederive s).beacon = s.beacon := by
  simp only [rederive]; split <;> simp

@[simp] theorem rederive_view :
    (rederive s).view = s.view := by
  simp only [rederive]; split <;> simp

@[simp] theorem rederive_classes :
    (rederive s).classes = s.classes := by
  simp only [rederive]; split <;> simp

@[simp] theorem rederive_mux :
    (rederive s).mux = s.mux := by
  simp only [rederive]; split <;> simp

@[simp] theorem rederive_ctl :
    (rederive s).ctl = s.ctl := by
  simp only [rederive]; split <;> simp

@[simp] theorem rederive_pending :
    (rederive s).pending = s.pending := by
  simp only [rederive]; split <;> simp

@[simp] theorem rederive_opinions : (rederive s).opinions = deriveOpinions s := by
  simp only [rederive]
  split
  · rename_i h; exact h.symm
  · simp

theorem rederive_verdict (sw : SwitchId) :
    ((rederive s).verdicts.switches.get sw).verdict = (s.verdicts.switches.get sw).verdict := by
  simp only [rederive]; split <;> simp

@[simp] theorem portChanged_lanes (p : PortId) :
    (portChanged p s).lanes = s.lanes := by
  simp [portChanged]

@[simp] theorem portChanged_epoch (p : PortId) :
    (portChanged p s).epoch = s.epoch := by
  simp [portChanged]

@[simp] theorem portChanged_ports (p : PortId) :
    (portChanged p s).ports = s.ports := by
  simp [portChanged]

@[simp] theorem portChanged_beacon (p : PortId) :
    (portChanged p s).beacon = s.beacon := by
  simp [portChanged]

@[simp] theorem portChanged_view (p : PortId) :
    (portChanged p s).view = s.view := by
  simp [portChanged]

@[simp] theorem portChanged_pending (p : PortId) :
    (portChanged p s).pending = s.pending := by
  simp [portChanged]

/-- A change of port state leaves the own opinions as the port states give them (R33). -/
@[simp] theorem portChanged_opinions (p : PortId) :
    (portChanged p s).opinions = deriveOpinions s := by
  simp [portChanged]

/-- A change of port state leaves the station as it is, or takes it from JOINING to ACTIVE. -/
theorem portChanged_ctl (p : PortId) :
    (portChanged p s).ctl = s.ctl ∨
      (s.ctl.state = .joining ∧
        (portChanged p s).ctl = { s.ctl with state := .active, joinTime := .stopped }) := by
  unfold portChanged
  simpa using joiningTest_ctl (issueTest (evaluateAll (cancelTrigger p (rederive s))))

theorem portChanged_config (p : PortId) : (portChanged p s).ctl.config = s.ctl.config := by
  rcases portChanged_ctl s p with h | ⟨_, h⟩ <;> rw [h]

theorem portChanged_time (p : PortId) : (portChanged p s).ctl.time = s.ctl.time := by
  rcases portChanged_ctl s p with h | ⟨_, h⟩ <;> rw [h]

theorem portChanged_settings (p : PortId) : settings (portChanged p s) = settings s := by
  simp [settings, portChanged_config]

theorem portChanged_now (p : PortId) : now (portChanged p s) = now s := portChanged_time s p

/-! ## Entries -/

@[simp] theorem enterDown_epoch (p : PortId) (c : Cause) :
    (enterDown p c s).epoch = s.epoch := by
  simp [enterDown]

@[simp] theorem enterDown_beacon (p : PortId) (c : Cause) :
    (enterDown p c s).beacon = s.beacon := by
  simp [enterDown]

@[simp] theorem enterDown_view (p : PortId) (c : Cause) :
    (enterDown p c s).view = s.view := by
  simp [enterDown]

@[simp] theorem enterDown_pending (p : PortId) (c : Cause) :
    (enterDown p c s).pending = s.pending := by
  simp [enterDown]

@[simp] theorem enterDown_ports (p : PortId) (c : Cause) :
    (enterDown p c s).ports = s.ports.set p ((s.ports.get p).fall c) := by
  simp [enterDown]

@[simp] theorem enterDown_lanes (p : PortId) (c : Cause) :
    (enterDown p c s).lanes = s.lanes.set p (s.lanes.get p).quieten := by
  simp [enterDown]

theorem enterDown_config (p : PortId) (c : Cause) :
    (enterDown p c s).ctl.config = s.ctl.config := by
  simp [enterDown, portChanged_config]

@[simp] theorem enterProbation_epoch (p : PortId) :
    (enterProbation p s).epoch = s.epoch := by
  simp [enterProbation]

@[simp] theorem enterProbation_beacon (p : PortId) :
    (enterProbation p s).beacon = s.beacon := by
  simp [enterProbation]

@[simp] theorem enterProbation_view (p : PortId) :
    (enterProbation p s).view = s.view := by
  simp [enterProbation]

@[simp] theorem enterProbation_pending (p : PortId) :
    (enterProbation p s).pending = s.pending := by
  simp [enterProbation]

@[simp] theorem enterProbation_ports (p : PortId) :
    (enterProbation p s).ports =
      s.ports.set p { s.ports.get p with state := .probation, cleanEpochs := 0 } := by
  simp [enterProbation]

theorem enterProbation_config (p : PortId) :
    (enterProbation p s).ctl.config = s.ctl.config := by
  simp [enterProbation, portChanged_config]

@[simp] theorem enterUp_lanes (p : PortId) :
    (enterUp p s).lanes = s.lanes := by
  simp [enterUp]

@[simp] theorem enterUp_epoch (p : PortId) :
    (enterUp p s).epoch = s.epoch := by
  simp [enterUp]

@[simp] theorem enterUp_beacon (p : PortId) :
    (enterUp p s).beacon = s.beacon := by
  simp [enterUp]

@[simp] theorem enterUp_view (p : PortId) :
    (enterUp p s).view = s.view := by
  simp [enterUp]

@[simp] theorem enterUp_pending (p : PortId) :
    (enterUp p s).pending = s.pending := by
  simp [enterUp]

@[simp] theorem enterUp_ports (p : PortId) :
    (enterUp p s).ports =
      s.ports.set p ((s.ports.get p).rise (now s) (settings s).revertHold) := by
  simp [enterUp]

theorem enterUp_config (p : PortId) : (enterUp p s).ctl.config = s.ctl.config := by
  simp [enterUp, portChanged_config]

/-! ## The PROBATION check and epoch results -/

@[simp] theorem probationCheck_epoch (p : PortId) :
    (probationCheck p s).epoch = s.epoch := by
  unfold probationCheck; split <;> simp

@[simp] theorem probationCheck_beacon (p : PortId) :
    (probationCheck p s).beacon = s.beacon := by
  unfold probationCheck; split <;> simp

@[simp] theorem probationCheck_view (p : PortId) :
    (probationCheck p s).view = s.view := by
  unfold probationCheck; split <;> simp

@[simp] theorem probationCheck_pending (p : PortId) :
    (probationCheck p s).pending = s.pending := by
  unfold probationCheck; split <;> simp

theorem probationCheck_config (p : PortId) :
    (probationCheck p s).ctl.config = s.ctl.config := by
  unfold probationCheck; split <;> simp [enterProbation_config]

/-- The PROBATION check leaves the record of every other port. -/
theorem probationCheck_other {p q : PortId} (h : q ≠ p) :
    (probationCheck p s).ports.get q = s.ports.get q := by
  unfold probationCheck; split <;> simp [Four.get_set_other _ _ h]

/-- What a delivery can do: nothing, a new record for its port, an entry to UP or to DOWN, or a new record that is
handed onward as a change of port state (R23 to R26). -/
theorem deliverEpoch_cases (p : PortId) (e : Nat) :
    deliverEpoch p e s = s ∨ (∃ r, deliverEpoch p e s = s.setPort p r) ∨
    deliverEpoch p e s = enterUp p s ∨ deliverEpoch p e s = enterDown p .errors s ∨
    ∃ r, deliverEpoch p e s = portChanged p (s.setPort p r) := by
  have score : ∀ e, (∃ r, judgeScore p e s = s.setPort p r) ∨
      judgeScore p e s = enterDown p .errors s ∨
      ∃ r, judgeScore p e s = portChanged p (s.setPort p r) := by
    intro e
    simp only [judgeScore]
    split
    · exact .inr (.inl rfl)
    · split
      · exact .inr (.inr ⟨_, rfl⟩)
      · split
        · exact .inr (.inr ⟨_, rfl⟩)
        · exact .inl ⟨_, rfl⟩
  unfold deliverEpoch
  split
  · exact .inl rfl
  · exact .inl rfl
  · simp only [judgeProbation]
    split
    · split
      · exact .inr (.inl ⟨_, rfl⟩)
      · exact .inr (.inr (.inl rfl))
    · exact .inr (.inr (.inr (.inl rfl)))
  · rcases score e with h | h | h
    · exact .inr (.inl h)
    · exact .inr (.inr (.inr (.inl h)))
    · exact .inr (.inr (.inr (.inr h)))
  · rcases score e with h | h | h
    · exact .inr (.inl h)
    · exact .inr (.inr (.inr (.inl h)))
    · exact .inr (.inr (.inr (.inr h)))

@[simp] theorem deliverEpoch_epoch (p : PortId) (e : Nat) :
    (deliverEpoch p e s).epoch = s.epoch := by
  rcases deliverEpoch_cases s p e with h | ⟨r, h⟩ | h | h | ⟨r, h⟩ <;> rw [h] <;> simp

@[simp] theorem deliverEpoch_beacon (p : PortId) (e : Nat) :
    (deliverEpoch p e s).beacon = s.beacon := by
  rcases deliverEpoch_cases s p e with h | ⟨r, h⟩ | h | h | ⟨r, h⟩ <;> rw [h] <;> simp

@[simp] theorem deliverEpoch_view (p : PortId) (e : Nat) :
    (deliverEpoch p e s).view = s.view := by
  rcases deliverEpoch_cases s p e with h | ⟨r, h⟩ | h | h | ⟨r, h⟩ <;> rw [h] <;> simp

@[simp] theorem deliverEpoch_pending (p : PortId) (e : Nat) :
    (deliverEpoch p e s).pending = s.pending := by
  rcases deliverEpoch_cases s p e with h | ⟨r, h⟩ | h | h | ⟨r, h⟩ <;> rw [h] <;> simp

theorem deliverEpoch_config (p : PortId) (e : Nat) :
    (deliverEpoch p e s).ctl.config = s.ctl.config := by
  rcases deliverEpoch_cases s p e with h | ⟨r, h⟩ | h | h | ⟨r, h⟩ <;> rw [h] <;>
    simp [enterDown_config, enterUp_config, portChanged_config]

/-- A delivery leaves the record of every other port. -/
theorem deliverEpoch_other (e : Nat) {p q : PortId} (hq : q ≠ p) :
    (deliverEpoch p e s).ports.get q = s.ports.get q := by
  rcases deliverEpoch_cases s p e with h | ⟨r, h⟩ | h | h | ⟨r, h⟩ <;> rw [h] <;>
    simp [Four.get_set_other _ _ hq]

/-- A delivery leaves the error count and the peak of every lane. -/
theorem deliverEpoch_counts (p q : PortId) (e : Nat) :
    ((deliverEpoch p e s).lanes.get q).errors = (s.lanes.get q).errors ∧
    ((deliverEpoch p e s).lanes.get q).peak = (s.lanes.get q).peak := by
  rcases deliverEpoch_cases s p e with h | ⟨r, h⟩ | h | h | ⟨r, h⟩ <;> rw [h] <;> simp [Four.get_set]
  split
  · subst_vars; exact ⟨rfl, rfl⟩
  · exact ⟨rfl, rfl⟩

end Sys2Proof.Machine
end

