-- ==== Sys2Proof/Laws/Resets.lean ====
section
/-! SUPPORT. What the shared operations of Machine/Resets.lean can do: for each, the fields of State it leaves as they
are, and how a property passes through the lane status reports. -/

namespace Sys2Proof.Machine

variable (s : State)

/-! ## The output pins -/

@[simp] theorem SteerPins.halt_mcls (p : SteerPins) : p.halt.mcls = p.mcls := rfl

@[simp] theorem SteerPins.halt_mtgt (p : SteerPins) : p.halt.mtgt = p.mtgt := rfl

@[simp] theorem SteerPins.halt_mmode (p : SteerPins) : p.halt.mmode = p.mmode := rfl

@[simp] theorem SteerPins.halt_setUp (p : SteerPins) : p.halt.setUp = 0 := rfl

@[simp] theorem SteerPins.halt_mreq (p : SteerPins) : p.halt.mreq = 0 := rfl

@[simp] theorem SteerPins.halt_mcan (p : SteerPins) : p.halt.mcan = 0 := rfl

@[simp] theorem SteerPins.halt_waiting (p : SteerPins) : p.halt.waiting = [] := rfl

/-! ## Configuration -/

@[simp] theorem applySettings_epoch (c : Settings) :
    (applySettings c s).epoch = s.epoch := by
  rfl

@[simp] theorem applySettings_opinions (c : Settings) :
    (applySettings c s).opinions = s.opinions := by
  rfl

@[simp] theorem applySettings_bus (c : Settings) :
    (applySettings c s).bus = s.bus := by
  rfl

@[simp] theorem applySettings_beacon (c : Settings) :
    (applySettings c s).beacon = s.beacon := by
  rfl

@[simp] theorem applySettings_view (c : Settings) :
    (applySettings c s).view = s.view := by
  rfl

@[simp] theorem applySettings_verdicts (c : Settings) :
    (applySettings c s).verdicts = s.verdicts := by
  rfl

@[simp] theorem applySettings_mux (c : Settings) :
    (applySettings c s).mux = s.mux := by
  rfl

@[simp] theorem applySettings_pending (c : Settings) :
    (applySettings c s).pending = s.pending := by
  rfl

@[simp] theorem applySettings_ctl (c : Settings) :
    (applySettings c s).ctl = { s.ctl with config := some c, configWait := .stopped } := rfl

/-- A property that every PROBATION check keeps is kept by the lane status reports. -/
theorem laneStatusReports_keeps (P : State → Prop) (h : ∀ p t, P t → P (probationCheck p t))
    (hs : P s) : P (laneStatusReports s) := by
  unfold laneStatusReports
  generalize allPorts = l
  induction l generalizing s with
  | nil => exact hs
  | cons p l ih =>
    refine ih _ ?_
    beta_reduce
    split
    · exact h p s hs
    · exact hs

@[simp] theorem laneStatusReports_epoch : (laneStatusReports s).epoch = s.epoch :=
  laneStatusReports_keeps s (fun t => t.epoch = s.epoch) (by intro p t h; simpa using h) rfl

@[simp] theorem laneStatusReports_beacon : (laneStatusReports s).beacon = s.beacon :=
  laneStatusReports_keeps s (fun t => t.beacon = s.beacon) (by intro p t h; simpa using h) rfl

@[simp] theorem laneStatusReports_view : (laneStatusReports s).view = s.view :=
  laneStatusReports_keeps s (fun t => t.view = s.view) (by intro p t h; simpa using h) rfl

@[simp] theorem laneStatusReports_pending : (laneStatusReports s).pending = s.pending :=
  laneStatusReports_keeps s (fun t => t.pending = s.pending) (by intro p t h; simpa using h) rfl

theorem laneStatusReports_config : (laneStatusReports s).ctl.config = s.ctl.config :=
  laneStatusReports_keeps s (fun t => t.ctl.config = s.ctl.config)
    (by intro p t h; rw [probationCheck_config, h]) rfl

/-- A configuration that takes effect is in the store afterwards. -/
theorem configure_config (c : Settings) : (configure c s).ctl.config = some c := by
  unfold configure
  simp [laneStatusReports_config]

/-! ## Warm reset -/

@[simp] theorem Bus.released_clockRuns (b : Bus) : b.released.clockRuns = b.wires.clockRuns := by
  unfold Bus.released; split <;> rfl

@[simp] theorem Bus.released_dataLow (b : Bus) : b.released.dataLow = b.wires.dataLow := by
  unfold Bus.released; split <;> rfl

/-- A notice stays on the lines after a warm reset where the station was receiving one, or where one goes on without
it. -/
theorem Bus.released_foreign (b : Bus) :
    b.released.foreign = true ↔ b.wires.foreign = true ∨ ∃ st, b.activity = .receiving st := by
  unfold Bus.released; split <;> simp_all

@[simp] theorem warmReset_epoch :
    (warmReset s).epoch = s.epoch := by
  rfl

@[simp] theorem warmReset_pending :
    (warmReset s).pending = s.pending := by
  rfl

/-- What a warm reset keeps in the station controller (R157). -/
theorem warmReset_ctl :
    (warmReset s).ctl =
      { s.ctl with
        state := .resetting, silenced := false, lateConfig := false, configWait := .stopped,
        joinTime := .stopped, resetQuiet := 0 } := rfl

theorem warmReset_opinions (sw : SwitchId) :
    (warmReset s).opinions.get sw =
      opinionOf ((mappedPorts s.ctl.config sw).map fun p =>
        ((s.ports.get p).warmReset).state) := by
  simp [warmReset, deriveOpinions, ownOpinion]

theorem endWarmReset_config : (endWarmReset s).ctl.config = s.ctl.config := by
  simp only [endWarmReset]
  split <;> simp [laneStatusReports_config]

@[simp] theorem endWarmReset_epoch :
    (endWarmReset s).epoch = s.epoch := by
  simp only [endWarmReset]; split <;> simp

@[simp] theorem endWarmReset_view :
    (endWarmReset s).view = s.view := by
  simp only [endWarmReset]; split <;> simp

@[simp] theorem endWarmReset_pending :
    (endWarmReset s).pending = s.pending := by
  simp only [endWarmReset]; split <;> simp

/-! ## Cold reset and HOLD -/

@[simp] theorem coldReset_pending (pins : Pins) : (coldReset pins s).pending = s.pending := by
  simp only [coldReset]; split <;> rfl

@[simp] theorem coldReset_config (pins : Pins) : (coldReset pins s).ctl.config = none := by
  simp only [coldReset]; split <;> rfl

@[simp] theorem enterHold_opinions :
    (enterHold s).opinions = s.opinions := by
  rfl

@[simp] theorem enterHold_pending :
    (enterHold s).pending = s.pending := by
  rfl

@[simp] theorem Timer.halt_isRunning (t : Timer) : t.halt.isRunning = false := by cases t <;> rfl

end Sys2Proof.Machine
end

