-- ==== Sys2Proof/Laws/Notices.lean ====
section
/-! SUPPORT. What the shared operations of Machine/Notices.lean can do: the fields of State they leave as they are, what
each outcome of R48 means, and how a property passes through the following of a notice. -/

namespace Sys2Proof.Machine

variable (s : State)

/-! ## Frames -/

@[simp] theorem loseTo_lanes (rival : Notice) (i : Nat) :
    (loseTo rival i s).lanes = s.lanes := by
  simp only [loseTo, loseAttempt]; split <;> simp

@[simp] theorem loseTo_epoch (rival : Notice) (i : Nat) :
    (loseTo rival i s).epoch = s.epoch := by
  simp only [loseTo, loseAttempt]; split <;> simp

@[simp] theorem loseTo_ports (rival : Notice) (i : Nat) :
    (loseTo rival i s).ports = s.ports := by
  simp only [loseTo, loseAttempt]; split <;> simp

@[simp] theorem loseTo_opinions (rival : Notice) (i : Nat) :
    (loseTo rival i s).opinions = s.opinions := by
  simp only [loseTo, loseAttempt]; split <;> simp

@[simp] theorem loseTo_view (rival : Notice) (i : Nat) :
    (loseTo rival i s).view = s.view := by
  simp only [loseTo, loseAttempt]; split <;> simp

@[simp] theorem loseTo_verdicts (rival : Notice) (i : Nat) :
    (loseTo rival i s).verdicts = s.verdicts := by
  simp only [loseTo, loseAttempt]; split <;> simp

@[simp] theorem loseTo_classes (rival : Notice) (i : Nat) :
    (loseTo rival i s).classes = s.classes := by
  simp only [loseTo, loseAttempt]; split <;> simp

@[simp] theorem loseTo_mux (rival : Notice) (i : Nat) :
    (loseTo rival i s).mux = s.mux := by
  simp only [loseTo, loseAttempt]; split <;> simp

@[simp] theorem loseTo_pending (rival : Notice) (i : Nat) :
    (loseTo rival i s).pending = s.pending := by
  simp only [loseTo, loseAttempt]; split <;> simp

@[simp] theorem storeNotice_lanes (n : Notice) :
    (storeNotice n s).lanes = s.lanes := by
  simp only [storeNotice]; split <;> rfl

@[simp] theorem storeNotice_epoch (n : Notice) :
    (storeNotice n s).epoch = s.epoch := by
  simp only [storeNotice]; split <;> rfl

@[simp] theorem storeNotice_ports (n : Notice) :
    (storeNotice n s).ports = s.ports := by
  simp only [storeNotice]; split <;> rfl

@[simp] theorem storeNotice_opinions (n : Notice) :
    (storeNotice n s).opinions = s.opinions := by
  simp only [storeNotice]; split <;> rfl

@[simp] theorem storeNotice_beacon (n : Notice) :
    (storeNotice n s).beacon = s.beacon := by
  simp only [storeNotice]; split <;> rfl

@[simp] theorem storeNotice_view (n : Notice) :
    (storeNotice n s).view = s.view := by
  simp only [storeNotice]; split <;> rfl

@[simp] theorem storeNotice_verdicts (n : Notice) :
    (storeNotice n s).verdicts = s.verdicts := by
  simp only [storeNotice]; split <;> rfl

@[simp] theorem storeNotice_classes (n : Notice) :
    (storeNotice n s).classes = s.classes := by
  simp only [storeNotice]; split <;> rfl

@[simp] theorem storeNotice_mux (n : Notice) :
    (storeNotice n s).mux = s.mux := by
  simp only [storeNotice]; split <;> rfl

@[simp] theorem storeNotice_pending (n : Notice) :
    (storeNotice n s).pending = s.pending := by
  simp only [storeNotice]; split <;> rfl

@[simp] theorem settleNotice_lanes (n : Notice) (o : NoticeOutcome) :
    (settleNotice n o s).lanes = s.lanes := by
  cases o <;> simp [settleNotice]

@[simp] theorem settleNotice_epoch (n : Notice) (o : NoticeOutcome) :
    (settleNotice n o s).epoch = s.epoch := by
  cases o <;> simp [settleNotice]

@[simp] theorem settleNotice_ports (n : Notice) (o : NoticeOutcome) :
    (settleNotice n o s).ports = s.ports := by
  cases o <;> simp [settleNotice]

@[simp] theorem settleNotice_opinions (n : Notice) (o : NoticeOutcome) :
    (settleNotice n o s).opinions = s.opinions := by
  cases o <;> simp [settleNotice]

@[simp] theorem settleNotice_view (n : Notice) (o : NoticeOutcome) :
    (settleNotice n o s).view = s.view := by
  cases o <;> simp [settleNotice]

@[simp] theorem settleNotice_verdicts (n : Notice) (o : NoticeOutcome) :
    (settleNotice n o s).verdicts = s.verdicts := by
  cases o <;> simp [settleNotice]

@[simp] theorem settleNotice_classes (n : Notice) (o : NoticeOutcome) :
    (settleNotice n o s).classes = s.classes := by
  cases o <;> simp [settleNotice]

@[simp] theorem settleNotice_mux (n : Notice) (o : NoticeOutcome) :
    (settleNotice n o s).mux = s.mux := by
  cases o <;> simp [settleNotice]

@[simp] theorem settleNotice_pending (n : Notice) (o : NoticeOutcome) :
    (settleNotice n o s).pending = s.pending := by
  cases o <;> simp [settleNotice]

@[simp] theorem endNotice_lanes (n : Notice) :
    (endNotice n s).lanes = s.lanes := by
  unfold endNotice toIdle enterTakeSlot
  repeat' split
  all_goals simp

@[simp] theorem endNotice_epoch (n : Notice) :
    (endNotice n s).epoch = s.epoch := by
  unfold endNotice toIdle enterTakeSlot
  repeat' split
  all_goals simp

@[simp] theorem endNotice_ports (n : Notice) :
    (endNotice n s).ports = s.ports := by
  unfold endNotice toIdle enterTakeSlot
  repeat' split
  all_goals simp

@[simp] theorem endNotice_opinions (n : Notice) :
    (endNotice n s).opinions = s.opinions := by
  unfold endNotice toIdle enterTakeSlot
  repeat' split
  all_goals simp

@[simp] theorem endNotice_view (n : Notice) :
    (endNotice n s).view = s.view := by
  unfold endNotice toIdle enterTakeSlot
  repeat' split
  all_goals simp

@[simp] theorem endNotice_verdicts (n : Notice) :
    (endNotice n s).verdicts = s.verdicts := by
  unfold endNotice toIdle enterTakeSlot
  repeat' split
  all_goals simp

@[simp] theorem endNotice_classes (n : Notice) :
    (endNotice n s).classes = s.classes := by
  unfold endNotice toIdle enterTakeSlot
  repeat' split
  all_goals simp

@[simp] theorem endNotice_mux (n : Notice) :
    (endNotice n s).mux = s.mux := by
  unfold endNotice toIdle enterTakeSlot
  repeat' split
  all_goals simp

@[simp] theorem endNotice_pending (n : Notice) :
    (endNotice n s).pending = s.pending := by
  unfold endNotice toIdle enterTakeSlot
  repeat' split
  all_goals simp

theorem storeNotice_bus (n : Notice) : (storeNotice n s).bus = { s.bus with slot := some n } := by
  simp only [storeNotice]; split <;> rfl

theorem dropTaken_eq :
    dropTaken s =
      s.setBus { s.bus with slot := if drivesTakeSlot s then none else s.bus.slot } := by
  unfold dropTaken; split <;> simp_all [State.setBus]

/-! ## The outcomes of R48 -/

/-- A notice is taken exactly when it passes all seven tests. -/
theorem noticeOutcome_taken (n : Notice) :
    noticeOutcome s n = .taken ↔
      ∃ k, n.header.kindInForm = some k ∧ n.complete = true ∧ n.checkRight = true ∧
        n.header.sender.toNat ≠ s.ctl.id ∧ relevant s.ctl.id n.header = true ∧
        acceptance s n k = none ∧ s.bus.slot = none := by
  unfold noticeOutcome
  split
  · rename_i h; simp [h]
  · rename_i k h
    simp only [h, Option.some.injEq, exists_eq_left']
    split
    · simp_all
    · split
      · simp_all
      · split
        · simp_all
        · split
          · simp_all
          · split
            · rename_i o ho
              have : acceptance s n k ≠ some .taken := by
                unfold acceptance
                split <;> (try split) <;> (try split) <;> simp
              constructor
              · rintro rfl; exact absurd ho this
              · simp [ho]
            · cases hs : s.bus.slot <;> simp_all

/-- A notice is discarded exactly when its form or its check code is wrong, or it is too short to hold one. -/
theorem noticeOutcome_discarded (n : Notice) :
    noticeOutcome s n = .discarded ↔
      n.header.kindInForm = none ∨ n.complete = false ∨ n.checkRight = false := by
  unfold noticeOutcome
  split
  · rename_i h; simp [h]
  · rename_i k h
    split
    · simp_all
    · split
      · simp_all
      · split
        · simp_all
        · split
          · simp_all
          · split
            · rename_i o ho
              have : acceptance s n k ≠ some .discarded := by
                unfold acceptance
                split <;> (try split) <;> (try split) <;> simp
              have hne : o ≠ .discarded := by rintro rfl; exact this ho
              simp_all
            · split <;> simp_all

/-! ## What each stage of a notice can do -/

/-- A notice met leaves the state as it is, opens an IDLE station's reception, or wins the arbitration (R41, R43). -/
theorem meetNotice_cases (n : Notice) (first last : Nat) :
    meetNotice n first last s = s ∨
      (s.bus.activity = .idle ∧ meetNotice n first last s = openStart s) ∨
      ∃ e own i, s.bus.activity = .sending e own ∧ lossAt own.bytes n.bytes = some i ∧
        first ≤ i ∧ i < last ∧ meetNotice n first last s = loseTo n i s := by
  unfold meetNotice
  split
  · rename_i h; exact .inr (.inl ⟨h, rfl⟩)
  · exact .inl rfl
  · rename_i e own h
    split
    · rename_i i hi
      split
      · rename_i hb
        simp only [Bool.and_eq_true, decide_eq_true_eq] at hb
        exact .inr (.inr ⟨e, own, i, h, hi, hb.1, hb.2, rfl⟩)
      · exact .inl rfl
    · exact .inl rfl

/-- Only a station that lost within the kind byte does anything at the sender byte: it is silenced by its own id
(R59). -/
theorem passSender_cases (n : Notice) :
    passSender n s = s ∨
      (s.bus.activity = .receiving .contested ∧
        passSender n s =
          if n.header.sender.toNat = s.ctl.id then
            silence (s.setBus { s.bus with activity := .receiving .opened })
          else s.setBus { s.bus with activity := .receiving .opened }) := by
  unfold passSender
  split
  · rename_i h; exact .inr ⟨h, rfl⟩
  · exact .inl rfl

/-- The hold slot opens for a station in the header of a notice alone (R44). -/
theorem openHoldSlot_cases (h : Header) :
    openHoldSlot h s = s ∨
      (s.bus.activity = .receiving .opened ∧
        openHoldSlot h s =
          s.setBus
            { s.bus with
              activity := .receiving (.headed h)
              hold :=
                if relevant s.ctl.id h && s.bus.slot.isSome && holdEnabled s then some 0
                else none }) := by
  unfold openHoldSlot
  split
  · rename_i hs; exact .inr ⟨hs, rfl⟩
  · exact .inl rfl

/-- The end of a notice truncates it, or carries out one outcome of R48 and opens the take slot (R47, R48, R50). -/
theorem endNotice_cases (n : Notice) :
    endNotice n s = s ∨
      (s.bus.activity = .receiving (.headed n.header) ∧ s.bus.hold = none ∧
        if n.header.kindInForm.isSome && !n.complete then endNotice n s = toIdle s
        else
          endNotice n s =
            enterTakeSlot n.header (noticeOutcome s n == .taken)
              (settleNotice n (noticeOutcome s n) s)) := by
  unfold endNotice
  split
  · rename_i h ha
    split
    · rename_i hc
      simp only [Bool.and_eq_true, decide_eq_true_eq, Option.isNone_iff_eq_none] at hc
      obtain ⟨rfl, hh⟩ := hc
      refine .inr ⟨ha, hh, ?_⟩
      split <;> rfl
    · exact .inl rfl
  · exact .inl rfl

/-- The take slot of a notice ends with the hand-over of the notice that the station took in it, if any (R51). -/
theorem closeNotice_cases (h : Header) :
    closeNotice h s = s ∨
      ∃ taken, s.bus.activity = .receiving (.taking h taken) ∧
        (closeNotice h s = s.setBus { s.bus with activity := .receiving (.closing h) } ∨
          ∃ n, taken = true ∧ s.bus.slot = some n ∧
            closeNotice h s =
              handOver n (s.setBus { s.bus with activity := .receiving (.closing h) })) := by
  unfold closeNotice
  split
  · rename_i h' taken ha
    split
    · rename_i hh
      subst hh
      refine .inr ⟨taken, ha, ?_⟩
      dsimp only
      split
      · rename_i n hs; exact .inr ⟨n, rfl, hs, rfl⟩
      · exact .inl rfl
    · exact .inl rfl
  · exact .inl rfl

/-! ## Following a notice -/

/-- What a part of a notice that meets a sending station makes of the lines: they are as before, released by the
others, or driven by another station as the part leaves them. -/
theorem besideOwn_cases (own n : Notice) (span : NoticeSpan) (w : Wires) :
    besideOwn own n span w = w ∨ besideOwn own n span w = quietWires ∨
      besideOwn own n span w =
        { foreign := true, clockRuns := clockAfter span, dataLow := dataAfter n span } := by
  cases span <;> simp only [besideOwn] <;> first | tauto | (split <;> simp)

/-- A part of a notice that a station follows or sends writes the lines alone, beside the stages it covers (R39). -/
theorem seeWires_eq (n : Notice) (span : NoticeSpan) :
    ∃ w, seeWires n span s = s.setBus { s.bus with wires := w } := by
  unfold seeWires
  split
  · exact ⟨s.bus.wires, rfl⟩
  · exact ⟨_, rfl⟩
  · exact ⟨_, rfl⟩

/-- A property that every stage of a notice keeps is kept by each part of the notice, and by the whole. -/
theorem followNotice_keeps (P : State → Prop) (n : Notice) (span : NoticeSpan)
    (hpass : ∀ w t, P t → P (passUnfollowed w t))
    (hwires : ∀ w t, P t → P (t.setBus { t.bus with wires := w }))
    (hmeet : ∀ first last t, P t → P (meetNotice n first last t))
    (hsender : ∀ t, P t → P (passSender n t)) (hhold : ∀ t, P t → P (openHoldSlot n.header t))
    (hend : ∀ t, P t → P (endNotice n t)) (hclose : ∀ t, P t → P (closeNotice n.header t))
    (hidle : ∀ t, P t → P (toIdle t)) (hs : P s) : P (followNotice n span s) := by
  have stop : ∀ t, P t → P (passStop n.header t) := by
    intro t ht
    unfold passStop
    split
    · exact hpass _ _ ht
    · split
      · exact hidle _ ht
      · exact ht
    · exact ht
  have follow : P (followSpan n span s) := by
    cases span
    · exact stop _ (hclose _ (hend _ (hhold _ (hsender _ (hmeet _ _ _ hs)))))
    · exact hmeet _ _ _ hs
    · exact hsender _ (hmeet _ _ _ hs)
    · exact hhold _ (hsender _ (hmeet _ _ _ hs))
    · exact hend _ (hmeet _ _ _ hs)
    · exact hclose _ hs
    · exact stop _ hs
    · exact hs
  unfold followNotice
  split
  · split
    · exact hpass _ _ hs
    · obtain ⟨w, h⟩ := seeWires_eq (followSpan n span s) n span
      rw [h]
      exact hwires _ _ follow
  · split
    · exact hpass _ _ hs
    · exact hs

end Sys2Proof.Machine
end

