-- ==== Sys2Proof/WellFormed.lean ====
section
/-! DEFINITION. Which commands are well formed: a notice row carries a notice of its kind that passes the tests of
form and check code, DISCARDED_NOTICE one that fails them, and a peer timer row names an MV432 id. The meanings do not
rest on it: they test the bytes themselves. -/

namespace Sys2Proof

open Machine

/-- A notice of kind `k`: right form, right length, right check code (R46, R63). -/
def Notice.soundOf (n : Notice) (k : NoticeKind) : Bool :=
  n.header.kindInForm == some k && n.checkRight

/-- A notice that is discarded: wrong form, too short, or a wrong check code (tests 1 and 2 of R48). -/
def Notice.faulty (n : Notice) : Bool := !(n.header.kindInForm.isSome && n.checkRight)

/-- Whether a command is well formed. -/
def Instr.wellFormed (i : Instr) : Bool :=
  match i with
  | .serrPulse _ => true
  | .helloPulse _ => true
  | .signalLoss _ => true
  | .signalPresent _ => true
  | .epochEnd => true
  | .helloSilence _ => true
  | .revertTimerExpiry _ => true
  | .transmissionAttempt none => true
  | .transmissionAttempt (some n) => n.header.kindInForm.isSome && n.checkRight
  | .transmissionComplete _ => true
  | .restartNotice n _ => n.soundOf .restart
  | .configNotice n _ => n.soundOf .config
  | .queryNotice n _ => n.soundOf .query
  | .healthNotice n _ => n.soundOf .health
  | .digestNotice n _ => n.soundOf .digest
  | .discardedNotice n _ => n.faulty
  | .truncatedNotice => true
  | .holdLimitExpiry => true
  | .absorption => true
  | .beaconExpiry => true
  | .freshnessExpiry id => isStationId id
  | .expiryTimerExpiry id => isStationId id
  | .recomputeCompletion => true
  | .condemnHoldExpiry _ => true
  | .backoffExpiry _ _ => true
  | .issue => true
  | .answerDone => true
  | .answerRefused => true
  | .answerCancelled => true
  | .answerLimitExpiry => true
  | .cancelLimitExpiry => true
  | .mrdyFall => true
  | .mrdyRise => true
  | .configWaitExpiry => true
  | .joinTimeExpiry => true
  | .rstnFall => true
  | .rstnRise => true
  | .warmResetEnd => true
  | .supplyLow => true
  | .supplyGood _ => true
  | .markInsideNotice _ => true

end Sys2Proof
end

