-- ==== Sys2Proof/Tests/Slice0.lean ====
section
/-! SUPPORT. Tests on small states: the well-formedness checks, the spec's worked examples, at most two steps for each
command, and for each statement with hypotheses a state and operands that meet them (`test_meets_…`). -/

namespace Sys2Proof.Tests

open Sys2Proof Sys2Proof.Machine Sys2Proof.Safety

set_option maxRecDepth 20000

/-! ## Sample states -/

/-- The state that a command leaves. -/
def after (c : Instr) (s : State) : State :=
  match exec c s with
  | .next t => t
  | _ => s

/-- The instant at which station time becomes `n`. -/
def ms (n : Nat) : Instant := { time := BitVec.ofNat 32 n, micros := 0 }

/-- A port that has been UP since station time 0 and is revert-ready. -/
def upPort : PortRecord :=
  { state := .up, cause := .start, score := 0, cleanEpochs := 20, upSince := some 0#32,
    revertTimer := some .expired, revertReady := true }

/-- Station 12, ACTIVE with the default configuration, every port UP and every class on P0. -/
def active : State :=
  { State.reset with
    lanes := Four.all
      { present := true, supervised := true, level := some true, errors := 0, peak := 0,
        helloTimer := .running (ms 300), helloSeen := true }
    ports := Four.all upPort
    opinions := Eight.build fun s => if s.val < 2 then .clear else .none
    beacon := .running (ms 100)
    classes := Eight.all
      { prefs := [0, 1, 2, 3], status := .placed, current := some 0, target := none,
        barred := Four.all none }
    mux := { State.reset.mux with port := .ready, mrdy := true }
    ctl := { State.reset.ctl with
      id := 12, state := .active, config := some defaultSettings, configWait := .stopped } }

/-- The same station with P2 in another state. -/
def withPort (r : PortRecord) : State := { active with ports := active.ports.set 2 r }

/-- A DOWN port. -/
def downPort : PortRecord := freshPort

/-- The same station with P2 DOWN and a given lane 2. -/
def withDown (l : Lane) : State := { withPort downPort with lanes := active.lanes.set 2 l }

/-- A state at another station time. -/
def atTime (t : Time) (s : State) : State := { s with ctl := { s.ctl with time := t } }

/-- The same station in another station state. -/
def inState (st : StationState) : State := { active with ctl := { active.ctl with state := st } }

/-- The same station with a move of C0 to P1 outstanding. -/
def moving (port : SteerState) (mode : MoveMode) : State :=
  { active with
    classes := active.classes.set 0
      { active.classes.e0 with status := .moving, target := some 1 }
    mux := { active.mux with
      port := port, outstanding := some { cls := 0, target := 1, mode := mode }
      answerLimit := if port = .await then .running (ms 10) else .stopped
      cancelLimit := if port = .cancelling then .running (ms 10) else .stopped } }

/-- The same station with one entry in its move queue. -/
def queued (e : QueueEntry) : State := { active with mux := { active.mux with queue := [e] } }

/-- A HEALTH of station 7: ACTIVE, S0 LOST and S1 CLEAR. -/
def health7 : Notice := buildNotice .health 7#8 31#8 [2#8, 0xD0#8, 0#8]

/-- An entry for station 7. -/
def peer7 : PeerEntry :=
  { id := 7, sender := .active, opinions := readOpinions health7.body, lastHeard := 0#32,
    status := .fresh, freshTimer := .running (ms 350), expiryTimer := .running (ms 3000) }

/-- The same station with station 7 in its table. -/
def withPeer : State := { active with view := { entries := [peer7], held := [] } }

/-- What a recompute on the defaults read at its start, with two ports on S0 and two on S1. -/
def reading : Recompute :=
  { qCond := 2, qClear := 3, mapped := Eight.build fun s => if s.val < 2 then 2 else 0,
    elapsed := 0 }

/-- The same station in a recompute, with one switch record for S0. -/
def recomputing (w : SwitchRecord) : State :=
  { active with
    verdicts := { switches := active.verdicts.switches.set 0 w, activity := .recomputing reading,
                  again := false } }

/-- A switch record with given readings. -/
def readOf (v : Verdict) (o : Opinion) (a k : Nat) (t : Timer) : SwitchRecord :=
  { verdict := v, opinionRead := o, lastA := a, lastK := k, condition := false, holdTimer := t }

/-- The same station with a transmit queue and an activity. -/
def sendState (q : List TxEntry) (a : Activity) : State :=
  { active with bus := { active.bus with queue := q, activity := a, quiet := 50, sinceEvent := 50 } }

/-- The CONFIG body that spells the default configuration (R68 to R71, R148). -/
def defaultBody : List Byte :=
  [0x08#8, 0x28#8, 0x08#8, 0x28#8, 0x23#8, 1#8, 0#8, 0#8, 64#8, 4#8, 8#8, 20#8, 30#8, 10#8, 35#8,
    30#8, 50#8, 30#8, 20#8, 50#8, 10#8, 30#8, 1#8] ++
  [4#8, 0x1B#8, 4#8, 0x1B#8, 4#8, 0x1B#8, 4#8, 0x1B#8, 4#8, 0x1B#8, 4#8, 0x1B#8, 4#8, 0x1B#8, 4#8,
    0x1B#8]

/-- A CONFIG to all stations with a body. -/
def configOf (body : List Byte) : Notice := buildNotice .config 0#8 31#8 body

/-- A QUERY of the management station to station 12. -/
def query12 : Notice := buildNotice .query 0#8 12#8 []

/-- A RESTART of the management station to all stations. -/
def restartAll : Notice := buildNotice .restart 0#8 31#8 []

/-! ## Well-formed commands -/

theorem test_wellFormed_health : (Instr.healthNotice health7 .whole).wellFormed = true := by decide

theorem test_wellFormed_refuses_other_kind :
    (Instr.restartNotice health7 .whole).wellFormed = false ∧
    (Instr.configNotice health7 .whole).wellFormed = false ∧
    (Instr.queryNotice health7 .whole).wellFormed = false ∧
    (Instr.digestNotice health7 .whole).wellFormed = false ∧
    (Instr.healthNotice query12 .whole).wellFormed = false := by decide

theorem test_wellFormed_refuses_wrong_check :
    (Instr.healthNotice { health7 with tail := [2#8, 0xD0#8, 0#8, 0#8] } .whole).wellFormed = false :=
  by decide

theorem test_wellFormed_refuses_sound_discard :
    (Instr.discardedNotice health7 .whole).wellFormed = false := by decide

theorem test_wellFormed_refuses_faulty_rival :
    (Instr.transmissionAttempt (some { health7 with tail := [] })).wellFormed = false := by decide

theorem test_wellFormed_refuses_ids :
    (Instr.freshnessExpiry 0).wellFormed = false ∧ (Instr.freshnessExpiry 31).wellFormed = false ∧
    (Instr.expiryTimerExpiry 0).wellFormed = false ∧
    (Instr.expiryTimerExpiry 31).wellFormed = false := by decide

/-! ## Bytes (Chapters 3, 4 and 9) -/

/-- The division of R46 done by hand on a RESTART to all stations: 01 00 1F 00 leaves 82h. -/
theorem test_checkCode_of_restart : checkCode [1#8, 0#8, 0x1F#8, 0#8] = 0x82#8 := by decide

/-- R65: ACTIVE with S0 LOST, S1 CLEAR, S2 IMPAIRED is 02 D8 00. -/
theorem test_healthBody_packs :
    healthBody .active
      { e0 := .lost, e1 := .clear, e2 := .impaired, e3 := .none, e4 := .none, e5 := .none,
        e6 := .none, e7 := .none } = [2#8, 0xD8#8, 0#8] := by decide

/-- R67: a state byte of 3 reads as JOINING. -/
theorem test_unknown_sender_state_is_joining : readSender [3#8, 0#8, 0#8] = .joining := by decide

/-- The bytes of the default configuration, written from R68 to R71, read as the defaults of R148 and are accepted. -/
theorem test_default_config_reads :
    readConfig defaultBody = defaultSettings ∧ configRefused defaultBody = false := by decide

/-- R149: each case of refusal. -/
theorem test_config_refusals :
    configRefused (defaultBody.set 23 5#8) = true ∧
    configRefused (defaultBody.set 24 0x5B#8) = true ∧
    configRefused (defaultBody.set 0 0x10#8) = true ∧
    configRefused (defaultBody.set 5 0#8 |>.set 6 15#8 |>.set 8 0#8) = true ∧
    configRefused (defaultBody.set 5 3#8 |>.set 6 241#8) = true ∧
    configRefused (defaultBody.set 8 241#8) = true ∧
    configRefused (defaultBody.set 8 240#8) = false := by decide

/-- R149: no port, and no class. -/
theorem test_config_refuses_nothing_left :
    configRefused ([0x10#8, 0x10#8, 0x10#8, 0x10#8] ++ (defaultBody.drop 4).take 19 ++
      List.replicate 16 0#8) = true ∧
    configRefused (defaultBody.take 23 ++ List.replicate 16 0#8) = true := by decide

/-- The figures of R150. -/
theorem test_expire_is_raised :
    raiseExpire 35 2 = 4 ∧ raiseExpire 255 1 = 26 ∧ raiseExpire 30 3 = 3 := by decide

/-- R148: values sent outside their ranges. -/
theorem test_config_clamps :
    (readConfig (defaultBody.set 10 64#8)).decay = 63 ∧ (readConfig (defaultBody.set 10 0#8)).decay = 1 ∧
    (readConfig (defaultBody.set 13 4#8)).beacon = 5 ∧
    (readConfig (defaultBody.set 21 251#8)).joinTime = 250 := by decide

/-- R74: a DOWN port that lost its hellos shows 12h, an UP port that was never down shows 30h. -/
theorem test_digest_port_bytes :
    (digestPort (withPort { freshPort with cause := .silent }) 2).head? = some 0x12#8 ∧
    (digestPort active 1).head? = some 0x30#8 := by decide

/-! ## Ports (Chapters 1 and 2) -/

/-- The figures of 2.12.1: 12, 70 and 0 errors on the defaults, and three bad epochs up to 1023. -/
theorem test_scores :
    newScore defaultSettings 0 12 = 48 ∧ newScore defaultSettings 48 70 = 303 ∧
    newScore defaultSettings 71 0 = 63 ∧ newScore defaultSettings 303 64 = 558 ∧
    newScore defaultSettings 558 500 = 813 ∧ newScore defaultSettings 813 65535 = 1023 := by decide

/-- 2.12.2: with CVW 15 and T_HI 1008, a score of 1000 and two errors take an UP port straight DOWN. -/
theorem test_up_straight_to_down :
    newScore { defaultSettings with cvw := 15 } 1000 2 = 1023 ∧
    newScore { defaultSettings with cvw := 15 } 1000 1 = 1015 := by decide

/-- 2.12.4: P0 SUSPECT makes S0 IMPAIRED; both its ports DOWN make it LOST. -/
theorem test_opinions :
    opinionOf [.suspect, .up] = .impaired ∧ opinionOf [.down, .probation] = .lost ∧
    opinionOf [.up, .up] = .clear ∧ opinionOf [.up, .down] = .impaired ∧ opinionOf [] = .none := by
  decide

theorem test_serr_pulse_saturates :
    (after (.serrPulse 2)
      { active with lanes := active.lanes.set 2 { active.lanes.p2 with errors := 65535 } }).lanes.p2.errors =
      65535 := by decide

theorem test_epoch_end_makes_suspect :
    let t := after .epochEnd <| atTime 100#32
      { active with lanes := active.lanes.set 2 { active.lanes.p2 with errors := 64 }
                    ports := active.ports.set 2 { upPort with score := 1 } }
    t.ports.p2.state = .suspect ∧ t.ports.p2.score = 256 ∧ t.lanes.p2.peak = 64 ∧
      t.lanes.p2.errors = 0 ∧ t.opinions.e0 = .impaired := by decide

theorem test_epoch_end_ends_probation :
    (after .epochEnd
      (atTime 100#32 (withPort { freshPort with state := .probation, cleanEpochs := 19 }))).ports.p2 =
      { state := .up, cause := .start, score := 0, cleanEpochs := 20, upSince := some 100#32,
        revertTimer := some (.running (ms 30100)), revertReady := false } := by decide

theorem test_signal_loss_evacuates :
    let t := after (.signalLoss 0) active
    t.ports.p0.state = .down ∧ t.ports.p0.cause = .signal ∧ t.lanes.p0.level = some false ∧
      t.mux.port = .await ∧ t.classes.e0.status = .moving ∧ t.classes.e0.target = some 1 ∧
      t.mux.queue.length = 7 := by decide

theorem test_hello_pulse_brings_probation :
    (after (.helloPulse 2)
      (withDown { active.lanes.p2 with helloSeen := false, helloTimer := .stopped })).ports.p2.state =
      .probation := by decide

theorem test_signal_present_needs_hello :
    (after (.signalPresent 2)
      (withDown { active.lanes.p2 with helloSeen := false, level := some false })).ports.p2.state =
      .down := by decide

/-- R15: a pulse taken first leaves no expiry to take. -/
theorem test_hello_silence :
    (after (.helloSilence 3) (atTime 300#32 active)).ports.p3.cause = .silent ∧
    (after (.helloSilence 3) (after (.helloPulse 3) (atTime 300#32 active))).ports.p3.state = .up := by
  decide

theorem test_revert_timer_expiry :
    (after (.revertTimerExpiry 2) <| atTime 5#32
      (withPort { upPort with revertTimer := some (.running (ms 5)), revertReady := false })).ports.p2 =
      upPort := by decide

/-! ## Classes and the steering port (Chapters 7 and 8) -/

/-- The rows of R113 for the list P2, P0, P3, with P0 and P2 on S0 and P3 on S1. -/
theorem test_best_port_rows :
    let cls : ClassRecord := { active.classes.e0 with prefs := [2, 0, 3] }
    let s (a b c : PortState) (v : Verdict) : State :=
      { active with
        ports := { p0 := { upPort with state := b }, p1 := upPort, p2 := { upPort with state := a },
                   p3 := { upPort with state := c } }
        verdicts := { active.verdicts with
          switches := active.verdicts.switches.set 0 { freshSwitch with verdict := v } } }
    bestPort (s .up .up .up .clear) cls = some 2 ∧
    bestPort (s .suspect .up .up .clear) cls = some 0 ∧
    bestPort (s .suspect .up .up .doubted) cls = some 0 ∧
    bestPort (s .up .up .suspect .condemned) cls = some 3 ∧
    bestPort (s .down .up .down .condemned) cls = some 0 ∧
    bestPort (s .up .up .up .clear) { cls with barred := Four.set (Four.all none) 2 (some .stopped) } =
      some 0 ∧
    bestPort (s .down .probation .down .clear) cls = none := by decide

/-- 7.11.1: P1 SUSPECT sheds C3 of station 12 to P3 after 240 ms. -/
theorem test_shed_is_staggered :
    let c3 : ClassRecord := { active.classes.e0 with prefs := [1, 3, 0], current := some 1 }
    let s : State :=
      { active with
        ports := active.ports.set 1 { upPort with state := .suspect }
        classes := active.classes.set 3 c3
        ctl := { active.ctl with time := 50200#32 } }
    (evaluate 3 s).mux.queue =
      [{ cls := 3, kind := .shed, target := 3, queuedAt := 50200#32, earliestStart := 50440#32 }] := by
  decide

theorem test_backoff_expiry :
    ((after (.backoffExpiry 3 1) <| atTime 9#32
      { active with
        classes := active.classes.set 3
          { active.classes.e3 with
            barred := Four.set (Four.all none) 1 (some (.running (ms 9))) } }).classes.e3.barred.get
        1) = none := by decide

theorem test_issue_is_forced :
    let t := after .issue
      (queued { cls := 0, kind := .evacuate, target := 1, queuedAt := 0#32, earliestStart := 0#32 })
    t.mux.port = .await ∧ t.mux.answerLimit = .running (ms 10) ∧ t.mux.pins.mmode = false ∧
      t.mux.queue = [] := by decide

/-- The lines are set a microsecond before MREQ rises, for a strobe of a microsecond (R133). -/
theorem test_lines_are_set_before_mreq :
    let e : QueueEntry :=
      { cls := 3, kind := .shed, target := 1, queuedAt := 0#32, earliestStart := 0#32 }
    let t := after .issue (queued e)
    let lines (m : Mux) : Bool × ClassId × Bool := (decide (0 < m.pins.mreq), m.pins.mcls, m.pins.mmode)
    lines t.mux = (false, 3, true) ∧ lines t.mux.tick = (true, 3, true) ∧
      lines t.mux.tick.tick = (false, 3, true) := by decide

/-- An answer within an MCAN strobe that has the next request issued: MCAN falls before the lines change (R133). -/
theorem test_mcan_ends_on_its_own_lines :
    let e : QueueEntry :=
      { cls := 3, kind := .evacuate, target := 2, queuedAt := 0#32, earliestStart := 0#32 }
    let s := atTime 10#32 (moving .await .drained)
    let cancelled := after .answerLimitExpiry { s with mux := { s.mux with queue := [e] } }
    let p := (after .issue (after .answerDone cancelled)).mux.pins
    let q := p.count.next
    (p.mcan, p.mcls, p.mreq) = (1, 0, 0) ∧ (q.mcan, q.mcls, q.mreq) = (0, 3, 0) ∧
      (q.count.next.mcan, q.count.next.mcls, q.count.next.mreq) = (0, 3, 1) := by decide

theorem test_done : (after .answerDone (moving .await .drained)).classes.e0.current = some 1 := by
  decide

theorem test_refused_bars :
    let t := after .answerRefused (moving .await .forced)
    t.classes.e0.current = some 0 ∧ t.classes.e0.status = .placed ∧
      t.classes.e0.barred.get 1 = some (.running (ms 1000)) := by decide

theorem test_cancelled_ignored_in_await :
    exec .answerCancelled (moving .await .drained) = .next (moving .await .drained) := rfl

theorem test_cancelled :
    (after .answerCancelled (moving .cancelling .drained)).classes.e0.current = some 0 := by decide

theorem test_answer_limit_stalls_forced :
    (after .answerLimitExpiry (atTime 10#32 (moving .await .forced))).mux.port = .stalled ∧
    (after .answerLimitExpiry (atTime 10#32 (moving .await .drained))).mux.port = .cancelling := by decide

theorem test_cancel_limit_stalls :
    (after .cancelLimitExpiry (atTime 10#32 (moving .cancelling .drained))).mux.port = .stalled := by decide

/-- 8.8.3: the fall of MRDY from STALLED abandons the move and queues a PLACE; the rise places every class. -/
theorem test_mrdy_fall_from_stalled :
    let t := after .mrdyFall (moving .stalled .forced)
    t.mux.port = .offline ∧ t.classes.e0.status = .unplaced ∧
      (t.mux.queue.map QueueEntry.kind) = [.place] := by decide

theorem test_mrdy_rise :
    let t := after .mrdyRise (after .mrdyFall (moving .stalled .forced))
    t.mux.port = .await ∧ t.classes.e0.status = .moving ∧ t.mux.queue.length = 7 := by decide

/-! ## Verdicts (Chapter 6) -/

/-- The counting cases of 6.8.1, for S0 with two mapped ports but for case 6 with one. -/
theorem test_counting_cases :
    condemnCondition reading 2 (readOf .clear .clear 3 7 .stopped) = true ∧
    condemnCondition reading 2 (readOf .clear .lost 1 9 .stopped) = true ∧
    condemnCondition reading 2 (readOf .clear .lost 0 7 .stopped) = false ∧
    condemnCondition reading 2 (readOf .clear .lost 0 2 .stopped) = true ∧
    condemnCondition reading 2 (readOf .clear .lost 0 0 .stopped) = true ∧
    condemnCondition reading 1 (readOf .clear .lost 0 7 .stopped) = false ∧
    condemnCondition reading 2 (readOf .clear .impaired 1 9 .stopped) = false ∧
    condemnCondition reading 0 (readOf .clear .none 2 0 .stopped) = true ∧
    condemnCondition reading 2 (readOf .clear .impaired 0 10 .stopped) = false ∧
    condemnCondition reading 2 (readOf .clear .clear 0 10 .stopped) = false := by decide

theorem test_completion_condemns :
    (after .recomputeCompletion (recomputing (readOf .clear .lost 1 9 .stopped))).verdicts.switches.e0.verdict =
      .condemned := by decide

/-- Case 11 of 6.8.1: the hold starts with 5 s. -/
theorem test_completion_starts_hold :
    let t := after .recomputeCompletion (recomputing (readOf .condemned .lost 0 7 .stopped))
    t.verdicts.switches.e0.verdict = .condemned ∧
      t.verdicts.switches.e0.holdTimer = .running (ms 5000) := by decide

theorem test_condemn_hold_expiry :
    let s := atTime 7#32 { active with
      verdicts := { active.verdicts with
        switches := active.verdicts.switches.set 0 (readOf .condemned .clear 0 9 (.running (ms 7))) } }
    let t := after (.condemnHoldExpiry 0) s
    t.verdicts.switches.e0.holdTimer = .expired ∧
      (after .recomputeCompletion t).verdicts.switches.e0.verdict = .clear := by decide

/-! ## The station bus and the peer view (Chapters 3, 5 and 10) -/

theorem test_attempt_sends_health :
    ((after (.transmissionAttempt none) (sendState [.health] .idle)).bus.activity) =
      .sending .health (buildNotice .health 12#8 31#8 [2#8, 0x50#8, 0#8]) := by decide

/-- A RESTART that begins in the same instant wins over the own HEALTH in the kind byte (R41, R59). -/
theorem test_attempt_loses_to_restart :
    (after (.transmissionAttempt (some restartAll)) (sendState [.health] .idle)).bus.activity =
      .receiving .contested := by decide

/-- R59: a QUERY that bears the own id wins in the kind byte; it silences the loser at its sender byte, and not
before. -/
theorem test_clash_at_sender_byte :
    let n := buildNotice .query 12#8 9#8 []
    let t := after (.transmissionAttempt (some n)) (sendState [.health] .idle)
    t.ctl.silenced = false ∧ (after .truncatedNotice t).ctl.silenced = false ∧
      (after (.queryNotice n .sender) t).ctl.silenced = true := by decide

/-- R39, R60: after a reset inside a notice the station is not free before the stop mark. -/
theorem test_notice_not_joined_after_reset :
    let s := after .rstnFall (after (.healthNotice health7 .startMark) active)
    s.bus.wires.foreign = true ∧ (after (.healthNotice health7 .body) s).bus.wires.foreign = true ∧
      (after (.healthNotice health7 .whole) s).bus.wires.foreign = false ∧
      (after (.healthNotice health7 .whole) { s with ctl := active.ctl }).bus.slot = none := by decide

/-- The sequence of 5.2: a HEALTH that completes at 20 037.775 restarts the beacon timer to 20 137.775, and the next
HEALTH is eligible at 20 057.775. -/
theorem test_complete_keeps_microseconds :
    let s (time : Time) (micros : Nat) (t : State) : State :=
      { t with ctl := { t.ctl with time := time, micros := micros } }
    let t := after (.transmissionComplete true) (s 20037#32 775 (sendState [.health] (.sending .health health7)))
    t.beacon = .running { time := 20137#32, micros := 775 } ∧
      txEligible (s 20057#32 774 t) .health = false ∧ txEligible (s 20057#32 775 t) .health = true := by decide

theorem test_complete_readds_marked_health :
    let s := sendState [.health, .digest 0#8 []] (.sending .health health7)
    let t := after (.transmissionComplete true) { s with bus := { s.bus with dueMark := true } }
    t.bus.queue = [.digest 0#8 [], .health] ∧ t.bus.lastTaken = true := by decide

theorem test_health_is_absorbed :
    let t := after .absorption (after (.healthNotice health7 .whole) active)
    t.view.entries.map PeerEntry.id = [7] ∧ accusers t.view.entries 0 = 1 ∧ t.bus.slot = none := by
  decide

theorem test_restart_warm_resets :
    (after (.restartNotice restartAll .whole) active).ctl.state = .resetting := by decide

theorem test_config_configures :
    (after (.configNotice (configOf defaultBody) .whole) State.reset).ctl.config =
      some defaultSettings := by decide

theorem test_config_is_late :
    (after (.configNotice (configOf defaultBody) .whole) active).ctl.lateConfig = true := by decide

theorem test_query_queues_digest :
    ((after (.queryNotice query12 .whole) active).bus.queue.map TxEntry.isHealth) = [false] := by
  decide

theorem test_own_digest_is_clash :
    (after (.digestNotice (buildNotice .digest 12#8 0#8 (List.replicate 37 0#8)) .whole) active).ctl.silenced =
      true := by decide

theorem test_discarded_notice :
    (after (.discardedNotice { health7 with tail := [2#8, 0xD0#8, 0#8, 0#8] } .whole) active).bus.slot =
      none := by decide

theorem test_truncated_notice :
    (after .truncatedNotice (sendState [] (.receiving .opened))).bus.activity = .idle := by decide

/-- R39, R47: a start mark that is never clocked leaves BDT low; after the 100 µs the bus is free only 50 µs after BDT
has risen. After a bit of 1 it is free 50 µs after the truncation. -/
theorem test_truncated_with_data_low :
    let wait (s : State) : State := { s with bus := Bus.tick^[50] s.bus }
    let t := after .truncatedNotice (after (.healthNotice health7 .startMark) active)
    let u := after (.healthNotice health7 (.clocks true))
      (after (.healthNotice health7 .startMark) active)
    busFree (wait t) = false ∧ busFree (wait (after (.markInsideNotice .stop) (wait t))) = true ∧
      busFree (wait (after .truncatedNotice u)) = true := by decide

theorem test_start_mark_inside :
    (after (.markInsideNotice .start) (sendState [.health] (.sending .health health7))).bus.activity =
      .receiving .opened := by decide

theorem test_hold_and_its_limit :
    let s := { active with bus := { active.bus with slot := some health7 } }
    let t := after (.healthNotice health7 .header) s
    t.bus.hold = some 0 ∧ (after .holdLimitExpiry t).bus.hold = some 0 ∧
      (after .holdLimitExpiry { t with bus := { t.bus with hold := some 2000 } }).bus.hold = none := by
  decide

theorem test_beacon_expiry :
    (after .beaconExpiry (atTime 100#32 active)).bus.queue = [.health] := by decide

/-- R80: a completion taken first restarts the timer, and no expiry takes place. -/
theorem test_beacon_expiry_after_completion :
    let s := atTime 100#32 (sendState [.health] (.sending .health health7))
    (after .beaconExpiry (after (.transmissionComplete false) s)).bus.queue = [] := by decide

theorem test_freshness_expiry :
    (after (.freshnessExpiry 7) (atTime 350#32 withPeer)).view.entries.map PeerEntry.status = [.stale] := by decide

theorem test_expiry_timer_expiry :
    (after (.expiryTimerExpiry 7) (atTime 3000#32 withPeer)).view.entries = [] := by decide

/-! ## The station (Chapter 9) -/

theorem test_config_wait_expiry :
    let t := after .configWaitExpiry (atTime 2000#32 State.reset)
    t.ctl.config = some defaultSettings ∧ t.ctl.defaulted = true ∧ t.ctl.state = .joining ∧
      t.bus.queue = [.health] := by decide

theorem test_join_time_expiry :
    (after .joinTimeExpiry
      { inState .joining with
        ctl := { active.ctl with
          state := .joining, joinTime := .running (ms 5), time := 5#32 } }).ctl.state =
      .active := by decide

theorem test_rstn_fall_keeps_placement :
    let t := after .rstnFall active
    t.classes.e0.current = some 0 ∧ t.ports.p0.state = .down ∧ t.opinions.e0 = .lost := by decide

/-- R39, R45, R60: a reset that ends a lone sending leaves both lines high; where a receiver holds the clock of the
notice, the bus-free timer runs from the rise of BCK. -/
theorem test_reset_ends_sending :
    let wait (s : State) : State := { s with bus := Bus.tick^[50] s.bus }
    let s := sendState [.health] .idle
    let sending := after (.transmissionAttempt none) s
    let held := after .rstnFall (after (.healthNotice (buildEntry s .health) .header) sending)
    (wait (after .rstnFall sending)).bus.quiet = 50 ∧ (wait held).bus.quiet = 0 ∧
      (wait (after (.healthNotice health7 (.clocks true)) (wait held))).bus.quiet = 50 := by decide

theorem test_rstn_rise_begins_count :
    (after .rstnRise
      { inState .resetting with
        ctl := { active.ctl with state := .resetting, rstnHigh := false, resetQuiet := 4 } }).ctl.resetQuiet =
      0 := by decide

theorem test_warm_reset_end :
    let t := after (.restartNotice restartAll .whole) active
    (after .warmResetEnd t).ctl.state = .resetting ∧
      (after .warmResetEnd { t with ctl := { t.ctl with resetQuiet := 100 } }).ctl.state = .joining := by
  decide

theorem test_supply_low : (after .supplyLow active).epoch = .stopped := by decide

/-- The entry to HOLD stops a hold timer that has expired as well (R94, R103). -/
theorem test_supply_low_stops_hold_timer :
    let s : State := { active with
      verdicts := { active.verdicts with
        switches := active.verdicts.switches.set 0 (readOf .condemned .clear 0 9 .expired) } }
    (after .supplyLow s).verdicts.switches.e0.holdTimer = .stopped := by decide

theorem test_supply_good_straps :
    let t := after (.supplyGood { Config.resetPins with straps := 31#5 }) (inState .hold)
    t.ctl.id = 30 ∧ t.ctl.defaulted = true := by decide

/-! ## What the statements assume can be met -/

/-- The premises on instants, at their boundary within a millisecond. -/
theorem test_meets_RanOut :
    let s : State := { active with ctl := { active.ctl with time := 5#32, micros := 300 } }
    RanOut s { time := 5#32, micros := 300 } ∧ ¬ RanOut s { time := 5#32, micros := 301 } ∧
      RanOut s { time := 4#32, micros := 999 } ∧ ¬ RanOut s { time := 6#32, micros := 0 } ∧
      GapOver (atTime 20#32 s) { time := 0#32, micros := 300 } ∧
      ¬ GapOver (atTime 20#32 s) { time := 0#32, micros := 301 } := by decide

/-- The active station with a HEALTH of station 7 in its receive slot, and HOLD_EN on or off. -/
def full (holdEn : Bool) : State :=
  { active with
    bus := { active.bus with slot := some health7 }
    ctl := { active.ctl with config := some { defaultSettings with holdEn := holdEn } } }

/-- A station past the hold slot of a notice, which it holds no longer. -/
def past (n : Notice) (s : State) : State :=
  { s with bus := { s.bus with activity := .receiving (.headed n.header), hold := none } }

/-- An unconfigured station of id 12, 2 s after its reset, with a signal and the hello-seen flag on lane 2. -/
def waiting : State :=
  { State.reset with
    lanes := State.reset.lanes.set 2
      { present := true, supervised := true, level := some true, errors := 7, peak := 9,
        helloTimer := .stopped, helloSeen := true }
    ctl := { State.reset.ctl with id := 12, time := 2000#32 } }

/-- The active station with one SHED entry, for C7, and the move of C0 outstanding. -/
def busy : State :=
  { moving .await .drained with
    mux := { (moving .await .drained).mux with
      queue := [{ cls := 7, kind := .shed, target := 2, queuedAt := 0#32,
                  earliestStart := 240#32 }] } }

/-- The active station in the middle of a count of errors and of a warm reset. -/
def resetting : State :=
  { inState .resetting with
    ports := Four.all downPort
    ctl := { active.ctl with state := .resetting, resetQuiet := 100 } }

/-- A step finds a command in the queue. -/
def facing (c : Instr) (s : State) : State := { s with pending := [c] }

theorem portsLaw_active : PortsLaw active where
  store := by unfold StoreLaw; decide
  settings := by unfold SettingsLaw; decide
  lanes := by unfold LaneLaw; decide
  ports := fun p =>
    ⟨by revert p; decide, by revert p; decide, by revert p; decide, by revert p; decide,
      by unfold carrying; revert p; decide, by unfold carrying; revert p; decide,
      by unfold carrying; revert p; decide⟩
  unconfigured := by decide

theorem portsLaw_waiting : PortsLaw waiting where
  store := by unfold StoreLaw; decide
  settings := by unfold SettingsLaw; decide
  lanes := by unfold LaneLaw; decide
  ports := fun p =>
    ⟨by revert p; decide, by revert p; decide, by revert p; decide, by revert p; decide,
      by unfold carrying; revert p; decide, by unfold carrying; revert p; decide,
      by unfold carrying; revert p; decide⟩
  unconfigured := by decide

theorem steerLaw_waiting : SteerLaw waiting where
  store := by unfold StoreLaw; decide
  classes := fun c =>
    ⟨by revert c; decide, by revert c; decide, by revert c; decide, by revert c; decide,
      by revert c; decide, by revert c; decide, by revert c; decide, by revert c; decide,
      by revert c; decide⟩
  entries := fun _ h => absurd h List.not_mem_nil
  single := by decide
  move :=
    { present_iff := by decide
      moving_iff := fun c => ⟨by revert c; decide, fun ⟨_, h, _⟩ => nomatch h⟩
      target_eq := fun _ h => nomatch h
      cancelling_drained := fun _ h => nomatch h
      drained_origin := fun _ h => nomatch h }
  strobes := ⟨by decide, by decide⟩
  unconfigured := by decide
  joining := by decide
  resetting := by decide

theorem steerLaw_busy : SteerLaw busy where
  store := by unfold StoreLaw; decide
  classes := fun c =>
    ⟨by revert c; decide, by revert c; decide, by revert c; decide, by revert c; decide,
      by revert c; decide, by revert c; decide, by revert c; decide, by revert c; decide,
      by revert c; decide⟩
  entries := fun e h => by
    obtain rfl := List.mem_singleton.mp h
    exact ⟨by decide, by decide, by decide, by decide, by decide⟩
  single := by decide
  move :=
    { present_iff := by decide
      moving_iff := fun c =>
        ⟨fun h => ⟨_, rfl, by revert c; decide⟩, fun ⟨_, h, k⟩ => by cases h; subst k; decide⟩
      target_eq := fun _ h => by cases h; decide
      cancelling_drained := fun _ h => by cases h; decide
      drained_origin := fun _ h => by cases h; decide }
  strobes := ⟨by decide, by decide⟩
  unconfigured := by decide
  joining := by decide
  resetting := by decide

/-- The active station with the steering port OFFLINE. -/
def offline : State :=
  { active with mux := { active.mux with port := .offline, mrdy := false } }

theorem steerLaw_offline : SteerLaw offline where
  store := by unfold StoreLaw; decide
  classes := fun c =>
    ⟨by revert c; decide, by revert c; decide, by revert c; decide, by revert c; decide,
      by revert c; decide, by revert c; decide, by revert c; decide, by revert c; decide,
      by revert c; decide⟩
  entries := fun _ h => absurd h List.not_mem_nil
  single := by decide
  move :=
    { present_iff := by decide
      moving_iff := fun c => ⟨by revert c; decide, fun ⟨_, h, _⟩ => nomatch h⟩
      target_eq := fun _ h => nomatch h
      cancelling_drained := fun _ h => nomatch h
      drained_origin := fun _ h => nomatch h }
  strobes := ⟨by decide, by decide⟩
  unconfigured := by decide
  joining := by decide
  resetting := by decide

theorem test_meets_StepRunsFrontCommand :
    { active with pending := [.issue, .mrdyFall] }.pending = .issue :: [.mrdyFall] := rfl

/-- Output pins with the set-up or a strobe in progress, and a list of drives that wait. -/
def pinsWith (setUp mreq mcan : Nat) (waiting : List Drive) : SteerPins :=
  { active.mux.pins with setUp := setUp, mreq := mreq, mcan := mcan, waiting := waiting }

/-- The pins of the last clause: a set-up, each strobe with nothing to follow, and each with a drive of each kind. -/
theorem test_meets_EmptyQueueRunsClock_pins :
    let m : Move := { cls := 7, target := 3, mode := .drained }
    ∀ p ∈ [pinsWith 1 0 0 [.cancel], pinsWith 0 0 0 [], pinsWith 0 1 0 [], pinsWith 0 1 0 [.cancel, .request m],
        pinsWith 0 0 1 [.request m]],
      StrobeLaw p ∧ dueCommands { active with mux := { active.mux with pins := p } } = [] := by
  intro m p hp
  fin_cases hp <;> exact ⟨⟨by decide, by decide⟩, by decide⟩

theorem test_meets_EmptyQueueRunsClock :
    ({ active with ctl := { active.ctl with time := 100#32 } }.pending = [] ∧
      ∃ rest, dueCommands { active with ctl := { active.ctl with time := 100#32 } } =
        .epochEnd :: rest) ∧
    ((inState .hold).pending = [] ∧ (inState .hold).ctl.state = .hold) ∧
    (dueCommands active = [] ∧ active.ctl.state ≠ .hold ∧ active.ctl.micros < 1000) ∧
    (dueCommands { active with ctl := { active.ctl with micros := 999, time := 99#32 } } = [] ∧
      { active with ctl := { active.ctl with micros := 999, time := 99#32 } }.ctl.micros < 1000) :=
  ⟨⟨rfl, _, rfl⟩, by decide, by decide, by decide⟩

theorem test_meets_HoldAndWarmResetTakeNoOtherEvent :
    ((inState .hold).ctl.state = .hold ∧ ∀ pins, Instr.issue ≠ .supplyGood pins) ∧
    (resetting.ctl.state = .resetting ∧ (∀ p, Instr.issue ≠ .signalLoss p) ∧
      (∀ p, Instr.issue ≠ .signalPresent p) ∧ Instr.issue ≠ .epochEnd ∧ Instr.issue ≠ .mrdyFall ∧
      Instr.issue ≠ .mrdyRise ∧ Instr.issue ≠ .rstnFall ∧ Instr.issue ≠ .rstnRise ∧
      Instr.issue ≠ .warmResetEnd ∧ Instr.issue ≠ .supplyLow) ∧
    (∀ n row span, IsNoticeRow n row → Instr.issue ≠ row span) ∧
    (∀ m, Instr.issue ≠ .markInsideNotice m) ∧ Instr.issue ≠ .truncatedNotice ∧
    IsNoticeRow health7 (.healthNotice health7) := by
  refine ⟨⟨rfl, fun _ h => nomatch h⟩, by decide, fun n row span h e => ?_,
    fun _ h => (nomatch h), by decide, by simp [IsNoticeRow]⟩
  rcases h with rfl | rfl | rfl | rfl | rfl | rfl <;> cases e

theorem test_meets_OnlyResetsClearStationState :
    let s : State := { active with ctl := { active.ctl with silenced := true } }
    StoreLaw s ∧ (∃ t, exec .mrdyFall s = .next t) ∧ (∀ pins, Instr.mrdyFall ≠ .supplyGood pins) ∧
      s.ctl.config = some defaultSettings ∧ s.ctl.silenced = true :=
  ⟨by unfold StoreLaw; decide, ⟨_, rfl⟩, (fun _ h => nomatch h), rfl, rfl⟩

theorem test_meets_OutputLines :
    steeringLines active =
      some { mreq := false, mcan := false, mcls := 0, mtgt := 0, mmode := false } := by decide

theorem test_meets_PortRecordsKeepTheirLaw :
    PortsLaw (facing (.signalLoss 0) active) ∧ ∃ t, step (facing (.signalLoss 0) active) = .next t :=
  ⟨⟨portsLaw_active.store, portsLaw_active.settings, portsLaw_active.lanes, portsLaw_active.ports,
    portsLaw_active.unconfigured⟩, _, rfl⟩

theorem test_meets_SteeringKeepsItsLaw :
    SteerLaw busy ∧ ∃ t, step busy = .next t := ⟨steerLaw_busy, _, rfl⟩

/-- Two entries of one rank: queued at one time for C6 and C7, and queued across the wrap of station time. -/
theorem test_meets_MoveQueueStaysInRankOrder :
    let e (c : ClassId) (q : Time) : QueueEntry :=
      { cls := c, kind := .shed, target := 2, queuedAt := q, earliestStart := q }
    let s (a b : QueueEntry) : State := facing (.signalLoss 0)
      { busy with mux := { busy.mux with queue := [a, b] }, ctl := { busy.ctl with time := 5#32 } }
    ∀ x ∈ [s (e 6 5#32) (e 7 5#32), s (e 7 0xFFFFFFFF#32) (e 6 5#32)],
      RankLaw x ∧ (∃ t, step x = .next t) ∧
      (∀ y ∈ x.mux.queue, (x.ctl.time - y.queuedAt).toNat < 2 ^ 31) ∧
      x.mux.queue.Pairwise comesBefore := by
  intro e s x hx
  fin_cases hx
  · exact ⟨⟨by decide, by decide⟩, ⟨_, rfl⟩, by decide, by unfold comesBefore; decide⟩
  · exact ⟨⟨by decide, by decide⟩, ⟨_, rfl⟩, by decide, by unfold comesBefore; decide⟩

/-- The active station sends a HEALTH that is due again, with a DIGEST behind it. -/
def sendingTwo : State :=
  { sendState [.health, .digest 0#8 []] (.sending .health health7) with
    bus := { (sendState [.health, .digest 0#8 []] (.sending .health health7)).bus with
      dueMark := true }
    pending := [.transmissionComplete true] }

theorem test_meets_TransmitQueueKeepsItsLaw :
    QueueLaw sendingTwo ∧ ∃ t, step sendingTwo = .next t :=
  ⟨⟨by decide, by decide, by decide, by decide, fun _ _ h => by cases h; decide, by decide,
    by decide⟩, _, rfl⟩

theorem test_meets_PeerTableKeepsItsLaw :
    let s := facing .absorption { withPeer with bus := { active.bus with slot := some health7 } }
    PeersLaw s ∧ ∃ t, step s = .next t :=
  ⟨⟨by decide, by decide, by decide, fun n h _ => by cases h; decide⟩, _, rfl⟩

theorem test_meets_VerdictsKeepTheirLaw :
    let s := facing .recomputeCompletion
      (recomputing (readOf .condemned .lost 0 7 (.running (ms 9))))
    VerdictLaw s ∧ ∃ t, step s = .next t :=
  ⟨fun _ sw => ⟨by revert sw; decide, by revert sw; decide⟩, _, rfl⟩

/-- Both sides of the cap of R5, and an absent lane. -/
theorem test_meets_SerrPulseCounts :
    let s (present : Bool) (e : Nat) := withDown { active.lanes.p2 with present := present, errors := e }
    awake (s true 65534) = true ∧ ((s true 65534).lanes.get 2).present = true ∧
      ((s true 65535).lanes.get 2).errors = 65535 ∧ ((s false 0).lanes.get 2).present = false := by
  decide

theorem test_meets_HelloPulseActsByPortState :
    awake active = true ∧ (active.lanes.get 2).present = true ∧ (active.lanes.get 2).supervised = true ∧
    (active.ports.get 2).state = .up ∧
    ((withPort { upPort with state := .suspect }).ports.get 2).state = .suspect ∧
    ((withPort { freshPort with state := .probation }).ports.get 2).state = .probation ∧
    ((withDown { active.lanes.p2 with supervised := false }).lanes.get 2).supervised = false ∧
    ((withPort downPort).ports.get 2).state = .down ∧
      ((withPort downPort).lanes.get 2).helloSeen = true ∧
    ((withDown { active.lanes.p2 with helloSeen := false, level := some false }).lanes.get 2).level ≠
      some true ∧
    ((withDown { active.lanes.p2 with helloSeen := false }).lanes.get 2).helloSeen = false ∧
      steers (withDown { active.lanes.p2 with helloSeen := false }) = true ∧
      ((withDown { active.lanes.p2 with helloSeen := false }).lanes.get 2).level = some true := by
  decide

theorem test_meets_SignalLossTakesPortDown :
    awake active = true ∧ (active.lanes.get 2).present = true ∧ (active.ports.get 2).state = .up ∧
    ((withPort { upPort with state := .suspect }).ports.get 2).state = .suspect ∧
    ((withPort { freshPort with state := .probation }).ports.get 2).state = .probation ∧
    awake (withPort downPort) = true ∧ ((withPort downPort).ports.get 2).state = .down ∧
    ((withDown { active.lanes.p2 with present := false }).lanes.get 2).present = false ∧
    resetting.ctl.state = .resetting ∧ (resetting.lanes.get 2).present = true := by decide

theorem test_meets_SignalPresentEntersProbation :
    (awake (withPort downPort) = true ∧ steers (withPort downPort) = true ∧
      ((withPort downPort).lanes.get 2).present = true ∧
      ((withPort downPort).ports.get 2).state = .down ∧
      ((withPort downPort).lanes.get 2).helloSeen = true) ∧
    (awake waiting = true ∧ waiting.ctl.state = .unconfigured ∧
      (waiting.lanes.get 2).present = true) ∧
    (active.ports.get 2).state ≠ .down ∧
    ((withDown { active.lanes.p2 with helloSeen := false }).lanes.get 2).helloSeen = false ∧
    ((withDown { active.lanes.p2 with present := false }).lanes.get 2).present = false ∧
    resetting.ctl.state = .resetting ∧ (resetting.lanes.get 2).present = true := by decide

/-- At the due time of 300 ms, and a millisecond before it. -/
theorem test_meets_HelloSilenceTakesPortDown :
    awake active = true ∧ (active.lanes.get 2).helloTimer = .running (ms 300) ∧
    RanOut (atTime 300#32 active) (ms 300) ∧
    ¬ RanOut (atTime 299#32 active) (ms 300) ∧
    (active.ports.get 2).state = .up ∧
    ((withDown { active.lanes.p2 with helloTimer := .stopped }).lanes.get 2).helloTimer.isRunning =
      false := by decide

theorem test_meets_EpochEndClosesEveryLane :
    active.ctl.state ≠ .hold ∧ active.epoch = .running (ms 100) ∧ (active.lanes.get 2).present = true ∧
    RanOut (atTime 100#32 active) (ms 100) ∧
    ¬ RanOut (atTime 99#32 active) (ms 100) ∧
    ((withDown { active.lanes.p2 with present := false }).lanes.get 2).present = false := by decide

/-- A clean epoch, one error epoch, and a count at the cap of 255: 64 times 4. -/
theorem test_meets_EpochResultUpdatesScore :
    let s (e : Nat) : State := atTime 100#32
      { active with lanes := active.lanes.set 2 { active.lanes.p2 with errors := e } }
    RanOut (s 0) (ms 100) ∧ (s 0).ctl.state ≠ .hold ∧ (s 0).epoch = .running (ms 100) ∧
    ((s 0).lanes.get 2).present = true ∧
    ((s 0).ports.get 2).state = .up ∧ ((s 0).lanes.get 2).errors = 0 ∧
    0 < ((s 1).lanes.get 2).errors ∧
    255 ≤ ((s 64).lanes.get 2).errors * (settings (s 64)).cvw ∧ ((s 0).ports.get 2).score ≤ 1023 := by
  decide

/-- The last clean epoch but one and the last one of PROBATION, and scores on both sides of T_HI and T_LO; a port that
changes alone, and an epoch that changes none. -/
theorem test_meets_EpochResultJudgesPort :
    (active.ctl.state ≠ .hold ∧ active.epoch = .running (ms 100) ∧
      RanOut (atTime 100#32 active) (ms 100) ∧
      (active.lanes.get 2).present = true ∧ (active.ports.get 2).state = .up) ∧
    ((withPort downPort).ports.get 2).state = .down ∧
    ((withPort absentPort).ports.get 2).state = .absent ∧
    (withPort { freshPort with state := .probation, cleanEpochs := 18 }).ports.p2.cleanEpochs + 1 <
      (settings active).probationEpochs ∧
    (withPort { freshPort with state := .probation, cleanEpochs := 19 }).ports.p2.cleanEpochs + 1 =
      (settings active).probationEpochs ∧
    newScore (settings active) 252 1 = (settings active).tHi ∧
    newScore (settings active) 72 0 = (settings active).tLo ∧
    (let s := atTime 100#32 (withPort { freshPort with state := .probation, cleanEpochs := 19 });
      ((after .epochEnd s).ports.get 2).state ≠ (s.ports.get 2).state ∧
      (∀ q, q ≠ 2 → ((after .epochEnd s).ports.get q).state = (s.ports.get q).state) ∧
      (after .epochEnd s).ctl = s.ctl) ∧
    (∀ q, ((after .epochEnd (atTime 100#32 active)).ports.get q).state =
      ((atTime 100#32 active).ports.get q).state) := by decide

theorem test_meets_RevertTimerExpirySetsFlag :
    let s := withPort { upPort with revertTimer := some (.running (ms 5)), revertReady := false }
    awake s = true ∧ (s.ports.get 2).revertTimer = some (.running (ms 5)) ∧
    RanOut (atTime 5#32 s) (ms 5) ∧
    ¬ RanOut (atTime 4#32 s) (ms 5) := by decide

/-- S7 has no port, S0 has two UP ports, or two waiting ones, or a mix. -/
theorem test_meets_OwnOpinionFollowsPortStates :
    let mapped (s : State) (sw : SwitchId) (p : PortId) : Prop :=
      ∃ g, s.ctl.config = some g ∧ (g.portMap.get p).absent = false ∧ (g.portMap.get p).switch = sw
    (∀ p, ¬ mapped active 7 p) ∧ mapped active 0 0 ∧
    (∀ p, mapped active 0 p → (active.ports.get p).state = .up) ∧
    (∀ p, mapped resetting 0 p → (resetting.ports.get p).state = .down) ∧
    (mapped (withPort downPort) 0 2 ∧ ((withPort downPort).ports.get 2).state ≠ .up ∧
      mapped (withPort downPort) 0 0 ∧ ((withPort downPort).ports.get 0).state = .up) ∧
    waiting.ctl.config = none := by
  refine ⟨fun p ⟨g, h, _, k⟩ => ?_, ⟨_, rfl, by decide, by decide⟩, fun p _ => ?_, fun p _ => ?_,
    ⟨⟨_, rfl, by decide, by decide⟩, by decide, ⟨_, rfl, by decide, by decide⟩, by decide⟩, rfl⟩
  · cases h; revert p; decide
  · revert p; decide
  · revert p; decide

theorem test_meets_CheckCodeSeesOneWrongByte : (0#8 : Byte) ≠ 1#8 := by decide

theorem test_meets_HealthReadsBackAsBuilt :
    active.ctl.state = .active ∧ (inState .joining).ctl.state = .joining ∧
    isStationId active.ctl.id = true ∧ isStationId 1 = true ∧ isStationId 30 = true := by decide

/-- A HEALTH that is eligible exactly 20 ms after the last, one that is not after 19 ms, and the DIGEST behind it. -/
theorem test_meets_AttemptSendsFirstEligibleEntry :
    let s (t : Time) : State :=
      { sendState [.health, .digest 0#8 []] .idle with
        bus := { (sendState [.health, .digest 0#8 []] .idle).bus with lastHealthEnd := some (ms 0) }
        ctl := { active.ctl with time := t } }
    awake (s 20#32) = true ∧ (s 20#32).bus.activity = .idle ∧ (s 20#32).bus.wires.clockRuns = false ∧
    (s 20#32).bus.wires.dataLow = false ∧ markWires.dataLow = true ∧
    (spanWires health7 .header).clockRuns = true ∧ 50 ≤ (s 20#32).bus.quiet ∧
    50 ≤ (s 20#32).bus.sinceEvent ∧ { active.bus with sinceEvent := 49 }.sinceEvent < 50 ∧
    healthGate (s 20#32) = true ∧
    (∀ u, (s 20#32).bus.lastHealthEnd = some u → GapOver (s 20#32) u) ∧
    (¬ (healthGate (s 19#32) = true ∧
      ∀ u, (s 19#32).bus.lastHealthEnd = some u → GapOver (s 19#32) u)) ∧
    (s 19#32).bus.queue = [.health] ++ .digest 0#8 [] :: [] ∧
    { active.bus with quiet := 49 }.quiet < 50 := by
  refine ⟨by decide, by decide, by decide, by decide, by decide, by decide, by decide, by decide,
    by decide, by decide, fun u h => ?_,
    fun ⟨_, h⟩ => ?_, rfl, by decide⟩
  · cases h; decide
  · exact absurd (h _ rfl) (by decide)

/-- Station 12 sends a HEALTH: the RESTART of the management station wins, and the HEALTH of station 13 loses. -/
theorem test_meets_AttemptLosesToLowerNotice :
    let s := sendState [.health] .idle
    let rival := buildNotice .health 13#8 31#8 [2#8, 0x50#8, 0#8]
    awake s = true ∧ s.bus.activity = .idle ∧ s.bus.wires.clockRuns = false ∧
    s.bus.wires.dataLow = false ∧ 50 ≤ s.bus.quiet ∧
    50 ≤ s.bus.sinceEvent ∧ nextEntry s = some .health ∧
    s.ctl.silenced = false ∧
    (∃ as bs, (buildEntry s .health).bytes = [] ++ 4#8 :: as ∧ restartAll.bytes = [] ++ 1#8 :: bs) ∧
    (∃ as bs, (buildEntry s .health).bytes = [4#8] ++ 12#8 :: as ∧
      rival.bytes = [4#8] ++ 13#8 :: bs) ∧
    (12#8 : Byte).toNat < (13#8 : Byte).toNat ∧ (1#8 : Byte).toNat < (4#8 : Byte).toNat :=
  ⟨by decide, by decide, by decide, by decide, by decide, by decide, by decide, by decide,
    ⟨_, _, rfl, rfl⟩, ⟨_, _, rfl, rfl⟩, by decide, by decide⟩

theorem test_meets_TransmissionCompletes :
    awake sendingTwo = true ∧ sendingTwo.bus.activity = .sending .health health7 ∧
    (sendState [] (.sending (.digest 0#8 []) health7)).bus.activity =
      .sending (.digest 0#8 []) health7 := by decide

theorem test_meets_RestartBeginsWarmReset :
    Arrives active restartAll .restart ∧ restartAll.header.sender.toNat ≠ active.ctl.id ∧
    active.bus.slot = none ∧ restartAll.header.target.toNat = 31 ∧
    Arrives active (buildNotice .restart 0#8 30#8 []) .restart ∧
    (buildNotice .restart 0#8 30#8 []).header.target.toNat ≠ active.ctl.id ∧
    (buildNotice .restart 0#8 30#8 []).header.target.toNat ≠ 31 ∧
    Arrives (full false) restartAll .restart ∧ (full false).bus.slot.isSome = true ∧
    holdEnabled (full false) = false :=
  ⟨(by constructor <;> decide), by decide, by decide, by decide, (by constructor <;> decide),
    by decide, by decide, (by constructor <;> decide), by decide, by decide⟩

theorem test_meets_ConfigTakesEffect :
    let n := configOf defaultBody
    Arrives waiting n .config ∧ n.header.sender.toNat ≠ waiting.ctl.id ∧
    n.header.target.toNat = 31 ∧ waiting.bus.slot = none ∧ waiting.ctl.state = .unconfigured ∧
    PortsLaw waiting ∧ SteerLaw waiting ∧ configRefused n.body = false :=
  ⟨(by constructor <;> decide), by decide, by decide, by decide,
    by decide, portsLaw_waiting, steerLaw_waiting, by decide⟩

/-- A port map with P3 absent, which the lists of four ports do not pass. -/
theorem test_meets_ConfigTurnedAway :
    let n := configOf (defaultBody.set 3 0x10#8)
    Arrives waiting n .config ∧ n.header.target.toNat = 31 ∧ waiting.bus.slot = none ∧
    configRefused n.body = true ∧ Arrives active n .config ∧ active.ctl.state = .active ∧
    Arrives (inState .joining) n .config ∧
    (let s := past (configOf defaultBody)
        { waiting with bus := { waiting.bus with slot := some health7 } };
      Resumes s (configOf defaultBody) .config ∧ s.bus.slot.isSome = true ∧
      s.ctl.state = .unconfigured ∧ configRefused (configOf defaultBody).body = false) :=
  ⟨(by constructor <;> decide), by decide, by decide, by decide,
    (by constructor <;> decide), by decide,
    (by constructor <;> decide),
    (by constructor <;> decide), by decide, by decide, by decide⟩

theorem test_meets_QueryQueuesSnapshot :
    Arrives active query12 .query ∧ query12.header.sender.toNat ≠ active.ctl.id ∧
    active.bus.slot = none ∧ query12.header.target.toNat = active.ctl.id ∧
    (∀ e ∈ active.bus.queue, e = .health) ∧
    (Arrives (sendState [.digest 0#8 []] .idle) query12 .query ∧
      TxEntry.digest 0#8 [] ∈ (sendState [.digest 0#8 []] .idle).bus.queue) ∧
    (Arrives active (buildNotice .query 0#8 31#8 []) .query ∧
      (buildNotice .query 0#8 31#8 []).header.target.toNat ≠ active.ctl.id) ∧
    (Arrives (full false) query12 .query ∧ (full false).bus.slot.isSome = true ∧
      holdEnabled (full false) = false) :=
  ⟨(by constructor <;> decide), by decide, by decide, by decide,
    by decide, ⟨(by constructor <;> decide), by decide⟩,
    ⟨(by constructor <;> decide), by decide⟩, (by constructor <;> decide), by decide, by decide⟩

/-- A move queue of eight entries and a peer table of 29. -/
theorem test_meets_DigestReadsBackAsBuilt :
    let s : State :=
      { active with
        mux := { active.mux with
          queue := allClasses.map fun c =>
            { cls := c, kind := .evacuate, target := 1, queuedAt := 0#32, earliestStart := 0#32 } }
        view := { entries := (List.range 29).map fun i => { peer7 with id := i + 1 }, held := [] } }
    PortsLaw s ∧ s.mux.queue.length ≤ 8 ∧ s.view.entries.length ≤ 29 :=
  ⟨⟨portsLaw_active.store, portsLaw_active.settings, portsLaw_active.lanes, portsLaw_active.ports,
    portsLaw_active.unconfigured⟩, by decide, by decide⟩

theorem test_meets_HealthIsStoredHeldOrLost :
    Arrives active health7 .health ∧ health7.header.target.toNat = 31 ∧
    isStationId health7.header.sender.toNat = true ∧
    health7.header.sender.toNat ≠ active.ctl.id ∧ active.bus.slot = none ∧
    (Arrives (full true) health7 .health ∧ (full true).bus.slot.isSome = true ∧
      holdEnabled (full true) = true) ∧
    (Arrives (full false) health7 .health ∧ (full false).bus.slot.isSome = true ∧
      holdEnabled (full false) = false) ∧
    (Resumes (past health7 active) health7 .health ∧ (past health7 active).bus.slot = none) ∧
    (Resumes (past health7 (full true)) health7 .health ∧
      (past health7 (full true)).bus.slot.isSome = true) ∧
    (Arrives (full true) query12 .query ∧ IsNoticeRow query12 (.queryNotice query12) ∧
      relevant (full true).ctl.id query12.header = true) ∧
    (awake active = true ∧ active.bus.activity = .idle ∧ active.bus.wires.foreign = false) :=
  ⟨(by constructor <;> decide), by decide, by decide, by decide,
    by decide, ⟨(by constructor <;> decide), by decide, by decide⟩,
    ⟨(by constructor <;> decide), by decide, by decide⟩,
    ⟨(by constructor <;> decide), by decide⟩,
    ⟨(by constructor <;> decide), by decide⟩,
    ⟨(by constructor <;> decide), by simp [IsNoticeRow], by decide⟩,
    by decide⟩

theorem test_meets_DigestPassesOrRevealsClash :
    let n (sender : Byte) := buildNotice .digest sender 0#8 (List.replicate 37 0#8)
    let q := buildNotice .query 12#8 9#8 []
    let lost := sendState [.health] (.receiving .contested)
    (Arrives active (n 11#8) .digest ∧ (n 11#8).header.sender.toNat ≠ active.ctl.id) ∧
    (Arrives active (n 12#8) .digest ∧ (n 12#8).header.sender.toNat = active.ctl.id ∧
      active.ctl.silenced = false) ∧
    (Arrives active q .query ∧ IsNoticeRow q (.queryNotice q) ∧
      q.header.sender.toNat = active.ctl.id ∧ active.bus.slot = none) ∧
    { active.ctl with silenced := true }.silenced = true ∧
    (awake lost = true ∧ lost.bus.activity = .receiving .contested ∧ lost.ctl.silenced = false ∧
      health7.header.sender.toNat ≠ lost.ctl.id ∧ q.header.sender.toNat = lost.ctl.id) :=
  ⟨⟨(by constructor <;> decide), by decide⟩,
    ⟨(by constructor <;> decide), by decide, by decide⟩,
    ⟨(by constructor <;> decide), by simp [IsNoticeRow], by decide, by decide⟩, by decide, by decide⟩

theorem test_meets_FaultyNoticeIsDiscarded :
    let wrong : Notice := { health7 with tail := [2#8, 0xD0#8, 0#8, 0#8] }
    let short : Notice := { health7 with tail := [2#8, 0xD0#8, 0#8] }
    awake active = true ∧ active.bus.activity = .idle ∧ active.bus.wires.foreign = false ∧
    active.bus.slot = none ∧
    (buildNotice .health 7#8 31#8 [2#8]).header.kindInForm = none ∧
    (buildNotice .health 7#8 31#8 [2#8]).complete = true ∧
    wrong.complete = true ∧ wrong.checkRight = false ∧
    short.header.kindInForm.isSome = true ∧ short.complete = false ∧
    IsNoticeRow wrong (.discardedNotice wrong) ∧ (spanWires health7 .body).foreign = true ∧
    NoticeSpan.whole ≠ .startMark :=
  ⟨by decide, by decide, by decide, by decide, by decide, by decide, by decide, by decide,
    by decide, by decide, by simp [IsNoticeRow], by decide, by decide⟩

/-- A notice taken and one not taken in their take slot; a hold of 2000 µs and one of 1999 µs. -/
theorem test_meets_TruncationAndHoldLimitReleaseNotice :
    let s (stage : Stage) := sendState [] (.receiving stage)
    awake active = true ∧ (s (.taking health7.header true)).bus.activity =
      .receiving (.taking health7.header true) ∧
    (s (.taking health7.header false)).bus.activity = .receiving (.taking health7.header false) ∧
    (∀ h, Stage.taking health7.header false ≠ .taking h true) ∧
    sendingTwo.bus.activity = .sending .health health7 ∧ active.bus.activity = .idle ∧
    (spanWires health7 .body).foreign = true ∧
    { active.bus with hold := some 2000 }.hold = some 2000 ∧ (2000 : Nat) ≤ 2000 ∧
    { active.bus with hold := some 1999 }.hold = some 1999 ∧ (1999 : Nat) < 2000 :=
  ⟨by decide, by decide, by decide, fun _ h => (nomatch h), by decide, by decide, rfl, rfl,
    by decide, rfl, by decide⟩

theorem test_meets_BeaconExpiryMakesHealthDue :
    steers active = true ∧ active.ctl.silenced = false ∧ active.beacon = .running (ms 100) ∧
    RanOut (atTime 100#32 active) (ms 100) ∧
    ¬ RanOut (atTime 99#32 active) (ms 100) ∧
    TxEntry.health ∉ active.bus.queue ∧ TxEntry.health ∈ (sendState [.health] .idle).bus.queue ∧
    sendingTwo.bus.activity = .sending .health health7 ∧ sendingTwo.beacon = .running (ms 100) := by
  decide

/-- A station that holds the next notice while the HEALTH of station 7 waits. -/
theorem test_meets_AbsorptionStoresPeer :
    let s : State :=
      { full true with
        bus := { (full true).bus with
          activity := .receiving (.headed health7.header), hold := some 7 } }
    awake s = true ∧ s.bus.slot = some health7 ∧ readKind health7.header.kind = some .health ∧
    (∀ h, s.bus.activity ≠ .receiving (.taking h true)) ∧
    s.verdicts.activity = .idle ∧ (recomputing freshSwitch).verdicts.activity ≠ .idle :=
  ⟨by decide, by decide, by decide, fun _ h => (nomatch h), by decide, by decide⟩

theorem test_meets_PeerTimersAgeAndRemoveEntries :
    awake withPeer = true ∧ findPeer withPeer.view.entries peer7.id = some peer7 ∧
    peer7.freshTimer = .running (ms 350) ∧ peer7.expiryTimer = .running (ms 3000) ∧
    RanOut (atTime 350#32 withPeer) (ms 350) ∧
    ¬ RanOut (atTime 349#32 withPeer) (ms 350) ∧
    RanOut (atTime 3000#32 withPeer) (ms 3000) ∧
    ¬ RanOut (atTime 2999#32 withPeer) (ms 3000) ∧
    withPeer.verdicts.activity = .idle ∧ (recomputing freshSwitch).verdicts.activity ≠ .idle ∧
    HeldExpiry.freshness peer7.id ∉ withPeer.view.held ∧
    HeldExpiry.removal peer7.id ∉ withPeer.view.held := by decide

/-- One port and two mapped ports, and an opinion read that is not LOST. -/
theorem test_meets_CondemnConditionHasThreeClauses :
    (readOf .clear .impaired 2 3 .stopped).opinionRead ≠ .lost ∧ (1 : Nat) ≤ 1 := by decide

theorem test_meets_CompletionSetsVerdicts :
    let s (w : SwitchRecord) := recomputing w
    awake (s freshSwitch) = true ∧ (s freshSwitch).verdicts.activity = .recomputing reading ∧
    condemnCondition reading 2 (readOf .clear .clear 2 3 .stopped) = true ∧
    condemnCondition reading 2 (readOf .clear .clear 1 3 .stopped) = false ∧
    condemnCondition reading 2 (readOf .condemned .clear 1 3 .stopped) = false ∧
    condemnCondition reading 2 (readOf .condemned .lost 0 3 (.running (ms 1))) = false ∧
    condemnCondition reading 2 (readOf .condemned .lost 0 3 .expired) = false ∧
    0 < (settings active).condemnHold ∧
    (settings { active with
      ctl := { active.ctl with
        config := some { defaultSettings with condemnHold := 0 } } }).condemnHold = 0 ∧
    (∃ sw, ((after .recomputeCompletion (s (readOf .clear .lost 1 9 .stopped))).verdicts.switches.get
      sw).verdict ≠ ((s (readOf .clear .lost 1 9 .stopped)).verdicts.switches.get sw).verdict) ∧
    (∀ sw, ((after .recomputeCompletion (s freshSwitch)).verdicts.switches.get sw).verdict =
      ((s freshSwitch).verdicts.switches.get sw).verdict) := by
  decide

theorem test_meets_CompletionStartsFurtherRecompute :
    let s := recomputing freshSwitch
    let h (held : List HeldExpiry) (e : PeerEntry) : State :=
      { s with view := { entries := [e], held := held } }
    awake s = true ∧ s.verdicts.activity = .recomputing reading ∧ s.verdicts.again = false ∧
    healthWaiting s = none ∧ s.view.held = [] ∧
    { s.verdicts with again := true }.again = true ∧
    healthWaiting { s with bus := { s.bus with slot := some health7 } } = some health7 ∧
    health7.header.sender.toNat ≠ 5 ∧
    (HeldExpiry.freshness 7 ∈ (h [.freshness 7] peer7).view.held ∧
      HeldExpiry.removal 7 ∉ (h [.freshness 7] peer7).view.held ∧
      findPeer (h [.freshness 7] peer7).view.entries 7 = some peer7 ∧
      peer7.freshTimer = .running (ms 350)) ∧
    (HeldExpiry.removal 7 ∈ (h [.removal 7] peer7).view.held ∧
      peer7.expiryTimer = .running (ms 3000)) ∧
    ((h [.removal 7] peer7.goStale).view.held = [.removal peer7.goStale.id] ∧
      findPeer (h [.removal 7] peer7.goStale).view.entries 7 = some peer7.goStale ∧
      peer7.goStale.expiryTimer = .running (ms 3000) ∧ peer7.goStale.status = .stale) := by decide

theorem test_meets_CondemnHoldExpiryRequestsRecompute :
    let s := recomputing (readOf .condemned .lost 0 7 (.running (ms 9)))
    awake s = true ∧ (s.verdicts.switches.get 0).holdTimer = .running (ms 9) ∧
    RanOut (atTime 9#32 s) (ms 9) ∧
    ¬ RanOut (atTime 8#32 s) (ms 9) ∧
    s.verdicts.activity = .recomputing reading ∧
    { s.verdicts with activity := .idle }.activity = .idle := by decide

theorem test_meets_BestPortIsFirstOfLowestTier :
    bestPort active (active.classes.get 0) = some 0 ∧
    (1 : PortId) ∈ (active.classes.get 0).prefs ∧
    portTier active (active.classes.get 0) 1 = some 1 ∧
    (active.classes.get 0).barred.get 1 = none ∧ (active.ports.get 1).state = .up ∧
    ((withPort { upPort with state := .suspect }).ports.get 2).state = .suspect ∧
    (active.verdicts.switches.get ((settings active).portMap.get 1).switch).verdict ≠ .condemned := by
  decide

/-- No usable port; no current port; on the best port; and a better port with the current one unusable, of a worse tier,
and of the same tier with and without a revert. -/
theorem test_meets_EvaluationDecidesMove :
    let s (a b : PortRecord) : State :=
      { active with ports := { p0 := a, p1 := b, p2 := downPort, p3 := downPort } }
    let r (cur : Option PortId) : ClassRecord := { active.classes.e0 with current := cur }
    let slow : PortRecord := { upPort with revertReady := false }
    let e : QueueEntry :=
      { cls := 0, kind := .evacuate, target := 1, queuedAt := 0#32, earliestStart := 0#32 }
    (active.ctl.state = .active ∧ (inState .joining).ctl.state = .joining ∧ (r none).prefs ≠ [] ∧
      (r none).status ≠ .moving ∧ (active.mux.queue.map QueueEntry.cls).Nodup ∧
      (∀ x ∈ active.mux.queue, x.cls ≠ 0)) ∧
    ((queued e).mux.queue = [] ++ e :: [] ∧ e.cls = 0 ∧ e.kind.rank = MoveKind.place.rank ∧
      e.kind.rank ≠ MoveKind.shed.rank ∧ ((queued e).mux.queue.map QueueEntry.cls).Nodup) ∧
    bestPort (s downPort downPort) (r none) = none ∧
    bestPort (s upPort upPort) (r none) = some 0 ∧
    bestPort (s upPort upPort) (r (some 0)) = some 0 ∧
    (bestPort (s downPort upPort) (r (some 0)) = some 1 ∧
      portTier (s downPort upPort) (r (some 0)) 0 = none) ∧
    (bestPort (s { upPort with state := .suspect } upPort) (r (some 0)) = some 1 ∧
      portTier (s { upPort with state := .suspect } upPort) (r (some 0)) 0 = some 2 ∧
      portTier (s { upPort with state := .suspect } upPort) (r (some 0)) 1 = some 1) ∧
    (bestPort (s upPort upPort) (r (some 1)) = some 0 ∧
      portTier (s upPort upPort) (r (some 1)) 1 = some 1 ∧
      portTier (s upPort upPort) (r (some 1)) 0 = some 1 ∧
      0 < (settings active).revertHold ∧
      ((s upPort upPort).ports.get 0).revertReady = true ∧
      ((s slow upPort).ports.get 0).revertReady = false) := by decide

theorem test_meets_BackoffExpiryUnbars :
    let s : State :=
      { active with
        classes := active.classes.set 3
          { active.classes.e3 with
              barred := Four.set (Four.all none) 1 (some (.running (ms 9))) } }
    awake s = true ∧ (s.classes.get 3).barred.get 1 = some (.running (ms 9)) ∧
    RanOut (atTime 9#32 s) (ms 9) ∧
    ¬ RanOut (atTime 8#32 s) (ms 9) := by decide

/-- An entry that starts now stands behind one that starts in a millisecond. -/
theorem test_meets_IssueSendsFirstEligibleEntry :
    let late : QueueEntry :=
      { cls := 0, kind := .shed, target := 1, queuedAt := 0#32, earliestStart := 1#32 }
    let due : QueueEntry :=
      { cls := 1, kind := .shed, target := 1, queuedAt := 0#32, earliestStart := 0#32 }
    let s : State := { active with mux := { active.mux with queue := [late] ++ due :: [] } }
    s.mux.port = .ready ∧ s.ctl.state = .active ∧
    (∀ x ∈ [late], ¬ (s.ctl.time - x.earliestStart).toNat < 2 ^ 31 ∨
      (s.ctl.state = .joining ∧ x.kind ≠ .place)) ∧
    (s.ctl.time - due.earliestStart).toNat < 2 ^ 31 ∧
    (s.ctl.state = .joining → due.kind = .place) ∧ (queued late).mux.queue = [late] := by decide

theorem test_meets_AnswerEndsMove :
    let m : Move := { cls := 0, target := 1, mode := .drained }
    awake (moving .await .drained) = true ∧ (moving .await .drained).mux.outstanding = some m ∧
    (moving .await .drained).mux.port = .await ∧
    (moving .cancelling .drained).mux.outstanding = some m ∧
    (moving .cancelling .drained).mux.port = .cancelling := by decide

theorem test_meets_LimitsCancelOrStall :
    awake (moving .await .forced) = true ∧
    (moving .await .forced).mux.outstanding = some { cls := 0, target := 1, mode := .forced } ∧
    (moving .await .forced).mux.answerLimit = .running (ms 10) ∧
    RanOut (atTime 10#32 (moving .await .forced)) (ms 10) ∧
    ¬ RanOut (atTime 9#32 (moving .await .forced)) (ms 10) ∧
    (moving .await .drained).mux.outstanding = some { cls := 0, target := 1, mode := .drained } ∧
    (moving .await .drained).mux.answerLimit = .running (ms 10) ∧
    (moving .cancelling .drained).mux.port = .cancelling ∧
    (moving .cancelling .drained).mux.cancelLimit = .running (ms 10) ∧
    (moving .stalled .drained).mux.port = .stalled := by decide

theorem test_meets_ForcedMoveIsNeverCancelled :
    (moving .await .forced).mux.port = .await ∧
    (moving .await .forced).mux.outstanding = some { cls := 0, target := 1, mode := .forced } ∧
    ∃ t, exec (.signalLoss 1) (moving .await .forced) = .next t := ⟨by decide, by decide, _, rfl⟩

theorem test_meets_MrdyFallAbandonsMove :
    awake (moving .await .drained) = true ∧
    (moving .await .drained).mux.outstanding = some { cls := 0, target := 1, mode := .drained } ∧
    awake active = true ∧ active.mux.port = .ready ∧ active.mux.outstanding = none ∧
    (moving .stalled .forced).mux.port = .stalled ∧ resetting.ctl.state = .resetting := by decide

theorem test_meets_MrdyRiseReplacesEveryClass :
    awake offline = true ∧ offline.mux.port = .offline ∧ SteerLaw offline ∧
    (offline.classes.get 0).prefs ≠ [] ∧
    awake waiting = true ∧ waiting.mux.port = .offline ∧ SteerLaw waiting ∧
    (waiting.classes.get 0).prefs = [] ∧ waiting.ctl.state = .unconfigured ∧
    awake active = true ∧ active.mux.port ≠ .offline ∧ resetting.ctl.state = .resetting :=
  ⟨by decide, by decide, steerLaw_offline, by decide, by decide, by decide, steerLaw_waiting,
    by decide, by decide, by decide, by decide, by decide⟩

theorem test_meets_ConfigWaitAppliesDefaults :
    waiting.ctl.state = .unconfigured ∧ waiting.ctl.configWait = .running (ms 2000) ∧
    RanOut waiting (ms 2000) ∧ PortsLaw waiting ∧ SteerLaw waiting ∧
    waiting.ctl.silenced = false ∧ { waiting.ctl with silenced := true }.silenced = true :=
  ⟨by decide, by decide, by decide, portsLaw_waiting, steerLaw_waiting, by decide, by decide⟩

/-- The window at its end and a millisecond before it; the last port of a joining station to come UP; and an epoch of
such a station that changes no port. -/
theorem test_meets_JoinTimeEndsWindow :
    let s (r : PortRecord) : State := atTime 100#32
      { withPort r with
        ctl := { active.ctl with state := .joining, joinTime := .running (ms 100) } }
    let last := s { freshPort with state := .probation, cleanEpochs := 19 }
    (s upPort).ctl.state = .joining ∧ (s upPort).ctl.joinTime = .running (ms 100) ∧
    RanOut (s upPort) (ms 100) ∧
    ¬ RanOut (atTime 99#32 (s upPort)) (ms 100) ∧
    last.epoch = .running (ms 100) ∧
    (∃ p, ((after .epochEnd last).ports.get p).state ≠ (last.ports.get p).state) ∧
    (∀ p, ((after .epochEnd last).ports.get p).state = .absent ∨
      ((after .epochEnd last).ports.get p).state = .up) ∧
    (∀ p, ((after .epochEnd (s upPort)).ports.get p).state = ((s upPort).ports.get p).state) := by
  decide

theorem test_meets_RstnBeginsAndExtendsWarmReset :
    awake active = true ∧ awake waiting = true ∧ resetting.ctl.state = .resetting := by decide

theorem test_meets_WarmResetEnds :
    (resetting.ctl.state = .resetting ∧ resetting.ctl.rstnHigh = true ∧
      100 ≤ resetting.ctl.resetQuiet ∧ resetting.mux.queue = [] ∧
      resetting.ctl.silenced = false ∧ resetting.bus.activity = .idle ∧
      (∀ p, (resetting.ports.get p).state = .down ∨ (resetting.ports.get p).state = .absent) ∧
      resetting.ctl.config.isSome = true) ∧
    { resetting.ctl with rstnHigh := false }.rstnHigh = false ∧
    { resetting.ctl with resetQuiet := 99 }.resetQuiet < 100 ∧
    (let s := { resetting with opinions := deriveOpinions resetting }; s.opinions = deriveOpinions s) ∧
    { resetting.ctl with config := none }.config = none := by decide

theorem test_meets_SupplyLowStopsEverything :
    active.ctl.state ≠ .hold ∧ resetting.ctl.state ≠ .hold ∧ (inState .hold).ctl.state = .hold := by
  decide

theorem test_meets_SupplyGoodIsColdReset :
    active.ctl.state ≠ .hold ∧ (inState .hold).ctl.state = .hold := by decide

end Sys2Proof.Tests
end

section
/-! PROOFS. EPOCH_END and the scores of the ports (R24): the new score by its two cases, one delivery, the four
deliveries of an epoch end, and the command. -/

namespace Sys2Proof.Machine

/-! ## The new score -/

@[simp] theorem newScore_zero (c : Settings) (score : Nat) :
    newScore c score 0 = score - c.decay := rfl

theorem newScore_of_pos (c : Settings) (score : Nat) {e : Nat} (he : 0 < e) :
    newScore c score e = min 1023 (score + min 255 (e * c.cvw)) :=
  if_neg he.ne'

/-- The cap of 255: every larger product of an error epoch adds the same. -/
theorem newScore_of_capped (c : Settings) (score : Nat) {e : Nat} (he : 255 ≤ e * c.cvw) :
    newScore c score e = min 1023 (score + 255) := by
  have hpos : 0 < e := Nat.pos_of_mul_pos_right (by omega : 0 < e * c.cvw)
  rw [newScore_of_pos c score hpos, min_eq_left he]

theorem newScore_le (c : Settings) {score : Nat} (e : Nat) (h : score ≤ 1023) :
    newScore c score e ≤ 1023 := by
  rcases Nat.eq_zero_or_pos e with rfl | he
  · exact (Nat.sub_le score c.decay).trans h
  · rw [newScore_of_pos c score he]
    exact min_le_left _ _

/-! ## One delivery -/

variable (s : State)

/-- Each test of R25 leaves the port with the new score: a port that enters DOWN does so at 1023, the score of DOWN. -/
theorem judgeScore_score (p : PortId) (e : Nat) :
    ((judgeScore p e s).ports.get p).score = newScore (settings s) (s.ports.get p).score e := by
  simp only [judgeScore]
  split
  · next hdown => simp [PortRecord.fall, hdown]
  · split
    · simp
    · split <;> simp

theorem deliverEpoch_score {p : PortId} (e : Nat)
    (h : (s.ports.get p).state = .up ∨ (s.ports.get p).state = .suspect) :
    ((deliverEpoch p e s).ports.get p).score = newScore (settings s) (s.ports.get p).score e := by
  rcases h with h | h <;> simp only [deliverEpoch, h, judgeScore_score]

/-! ## The deliveries of an epoch end -/

theorem deliverResult_config (before : Four Lane) (p : PortId) :
    (deliverResult before s p).ctl.config = s.ctl.config := by
  unfold deliverResult
  split
  · exact deliverEpoch_config s p _
  · rfl

theorem deliverResult_other (before : Four Lane) {p q : PortId} (h : q ≠ p) :
    (deliverResult before s p).ports.get q = s.ports.get q := by
  unfold deliverResult
  split
  · exact deliverEpoch_other s _ h
  · rfl

theorem deliverResult_present {before : Four Lane} {p : PortId}
    (h : (before.get p).present = true) :
    deliverResult before s p = deliverEpoch p (before.get p).errors s := if_pos h

theorem foldl_deliverResult_config (before : Four Lane) (l : List PortId) :
    (l.foldl (deliverResult before) s).ctl.config = s.ctl.config := by
  induction l generalizing s with
  | nil => rfl
  | cons q l ih => rw [List.foldl_cons, ih, deliverResult_config]

theorem foldl_deliverResult_other (before : Four Lane) {l : List PortId} {p : PortId}
    (h : p ∉ l) : (l.foldl (deliverResult before) s).ports.get p = s.ports.get p := by
  induction l generalizing s with
  | nil => rfl
  | cons q l ih =>
    obtain ⟨hq, hl⟩ := not_or.mp (mt List.mem_cons.mpr h)
    rw [List.foldl_cons, ih _ hl, deliverResult_other s before hq]

/-- Of the deliveries of an epoch end only its own changes the record of a port, and it meets the record and the
settings that stood before the epoch end. -/
theorem endEpoch_record {p : PortId} (h : (s.lanes.get p).present = true) :
    ∃ u : State, u.ports.get p = s.ports.get p ∧ u.ctl.config = s.ctl.config ∧
      (endEpoch s).ports.get p = (deliverEpoch p (s.lanes.get p).errors u).ports.get p := by
  obtain ⟨earlier, rest, hsplit⟩ := List.append_of_mem (mem_allPorts p)
  have hnodup : (earlier ++ p :: rest).Nodup := hsplit ▸ (by decide : allPorts.Nodup)
  have hearlier : p ∉ earlier := fun hp =>
    List.disjoint_of_nodup_append hnodup hp (List.mem_cons_self ..)
  have hrest : p ∉ rest := (List.nodup_cons.mp hnodup.of_append_right).1
  refine ⟨earlier.foldl (deliverResult s.lanes)
    { s with lanes := s.lanes.map fun l => if l.present then l.closeEpoch else l },
    foldl_deliverResult_other _ s.lanes hearlier, foldl_deliverResult_config _ s.lanes earlier, ?_⟩
  rw [endEpoch, hsplit, List.foldl_append, List.foldl_cons,
    foldl_deliverResult_other _ s.lanes hrest, deliverResult_present _ h]

theorem endEpoch_score {p : PortId} (hlane : (s.lanes.get p).present = true)
    (hport : (s.ports.get p).state = .up ∨ (s.ports.get p).state = .suspect) :
    ((endEpoch s).ports.get p).score =
      newScore (settings s) (s.ports.get p).score (s.lanes.get p).errors := by
  obtain ⟨u, hrecord, hconfig, hend⟩ := endEpoch_record s hlane
  have hsettings : settings u = settings s := by simp only [settings, hconfig]
  rw [hend, deliverEpoch_score u _ (by rwa [hrecord]), hrecord, hsettings]

/-! ## The command -/

theorem exec_epochEnd_ranOut {due : Instant} (hstate : s.ctl.state ≠ .hold)
    (hepoch : s.epoch = .running due) (hdue : Safety.RanOut s due) :
    exec .epochEnd s = .next (endEpoch { s with epoch := startTimer due epochMs }) := by
  have hdue : ranOut (clock s) due = true := (ranOut_iff (clock s) due).mpr hdue
  change execEpochEnd s = _
  simp only [execEpochEnd, if_neg hstate, nextEpoch, hepoch, if_pos hdue]

end Sys2Proof.Machine

namespace Sys2Proof.Proofs

open Sys2Proof.Machine

/-- Settles O20: the four deliveries keep apart, so the port's own delivery gives its score as `newScore` does, and the
clauses are the cases of `newScore`. -/
theorem epochResultUpdatesScore : Obligations.EpochResultUpdatesScore := by
  intro s p due hstate hepoch hdue hlane hport
  have hscore := endEpoch_score { s with epoch := startTimer due epochMs } hlane hport
  refine ⟨_, exec_epochEnd_ranOut s hstate hepoch hdue, ?clean, fun hpos => ⟨?error, ?capped⟩,
    ?bound⟩ <;> rw [hscore]
  case clean =>
    intro hzero
    rw [hzero]
    exact newScore_zero ..
  case error => exact newScore_of_pos _ _ hpos
  case capped => exact newScore_of_capped _ _
  case bound => exact newScore_le _ _

end Sys2Proof.Proofs
end

section
/-! PROOFS. The condemn condition of a switch (R100): its three clauses, and when the opinion read or the number of
mapped ports leaves fewer of them. -/

namespace Sys2Proof.Machine

variable {r : Recompute} {mapped : Nat} {w : SwitchRecord}

theorem condemnCondition_iff :
    condemnCondition r mapped w = true ↔
      r.qCond ≤ w.lastA ∨ (w.opinionRead = .lost ∧ 1 ≤ w.lastA) ∨
        (w.opinionRead = .lost ∧ 2 ≤ mapped ∧ w.lastK < r.qClear) := by
  simp only [condemnCondition, Bool.or_eq_true, Bool.and_eq_true, decide_eq_true_eq, beq_iff_eq,
    or_assoc, and_assoc]

/-- Both clauses after the first ask for a LOST opinion. -/
theorem condemnCondition_iff_of_not_lost (h : w.opinionRead ≠ .lost) :
    condemnCondition r mapped w = true ↔ r.qCond ≤ w.lastA := by
  simp only [condemnCondition_iff, h, false_and, or_false]

/-- Last K stands in the third clause alone, and that clause asks for two mapped ports. -/
theorem condemnCondition_lastK_of_mapped_le_one (h : mapped ≤ 1) (k : Nat) :
    condemnCondition r mapped { w with lastK := k } = condemnCondition r mapped w := by
  have hfew : ¬ 2 ≤ mapped := by omega
  rw [Bool.eq_iff_iff]
  simp only [condemnCondition_iff, hfew, false_and, and_false]

end Sys2Proof.Machine

namespace Sys2Proof.Proofs

open Sys2Proof.Machine

/-- Settles O41: the Boolean test is the disjunction of the three clauses of R100, and the two notes are that
disjunction with the clauses left out that cannot hold. -/
theorem condemnConditionHasThreeClauses : Obligations.CondemnConditionHasThreeClauses := fun _ _ _ =>
  ⟨condemnCondition_iff, condemnCondition_iff_of_not_lost, condemnCondition_lastK_of_mapped_le_one⟩

end Sys2Proof.Proofs
end

section
/-! PROOFS. Steering (R112, R113): the tier of a port case by case, the first port of a tier, and the search for the
best port tier by tier. -/

namespace Sys2Proof.Machine

variable {s : State} {c : ClassRecord} {p b : PortId} {tier : Nat}

theorem portTier_of_barred (h : (c.barred.get p).isSome = true) : portTier s c p = none := by
  simp [portTier, h]

theorem portTier_of_up (hbar : c.barred.get p = none) (hup : (s.ports.get p).state = .up) :
    portTier s c p = if portVerdict s p = .condemned then some 3 else some 1 := by
  simp [portTier, hbar, hup]

theorem portTier_of_suspect (hbar : c.barred.get p = none)
    (hsus : (s.ports.get p).state = .suspect) :
    portTier s c p = if portVerdict s p = .condemned then some 3 else some 2 := by
  simp [portTier, hbar, hsus]

theorem portTier_of_unusable_state (hup : (s.ports.get p).state ≠ .up)
    (hsus : (s.ports.get p).state ≠ .suspect) : portTier s c p = none := by
  cases hstate : (s.ports.get p).state <;> simp_all [portTier]

/-- The cases of R112, each with the tier it gives: barred, in another state, UP, or SUSPECT. -/
theorem portTier_cases (s : State) (c : ClassRecord) (p : PortId) :
    ((c.barred.get p).isSome = true ∧ portTier s c p = none) ∨
    ((s.ports.get p).state ≠ .up ∧ (s.ports.get p).state ≠ .suspect ∧ portTier s c p = none) ∨
    (c.barred.get p = none ∧ (s.ports.get p).state = .up ∧
      portTier s c p = if portVerdict s p = .condemned then some 3 else some 1) ∨
    (c.barred.get p = none ∧ (s.ports.get p).state = .suspect ∧
      portTier s c p = if portVerdict s p = .condemned then some 3 else some 2) := by
  cases hbar : c.barred.get p with
  | some _ => simp [portTier_of_barred, hbar]
  | none =>
    by_cases hup : (s.ports.get p).state = .up
    · simp [portTier_of_up hbar hup, hup]
    · by_cases hsus : (s.ports.get p).state = .suspect
      · simp [portTier_of_suspect hbar hsus, hsus]
      · simp [portTier_of_unusable_state hup hsus, hup, hsus]

theorem portTier_eq_none_iff :
    portTier s c p = none ↔ (c.barred.get p).isSome = true ∨
      ((s.ports.get p).state ≠ .up ∧ (s.ports.get p).state ≠ .suspect) := by
  obtain ⟨hbar, htier⟩ | ⟨hup, hsus, htier⟩ | ⟨hbar, hup, htier⟩ | ⟨hbar, hsus, htier⟩ :=
    portTier_cases s c p
  · simp [htier, hbar]
  · simp [htier, hup, hsus]
  · rw [htier]; split <;> simp [hbar, hup]
  · rw [htier]; split <;> simp [hbar, hsus]

theorem portTier_bounds (h : portTier s c p = some tier) : 1 ≤ tier ∧ tier ≤ 3 := by
  obtain ⟨-, htier⟩ | ⟨-, -, htier⟩ | ⟨-, -, htier⟩ | ⟨-, -, htier⟩ := portTier_cases s c p <;>
    grind

theorem firstInTier_eq_none_iff :
    firstInTier s c tier = none ↔ ∀ p ∈ c.prefs, portTier s c p ≠ some tier := by
  simp [firstInTier]

/-- What is found is in the tier, and no port before it in list order is. -/
theorem firstInTier_eq_some_iff :
    firstInTier s c tier = some b ↔ portTier s c b = some tier ∧
      ∃ front back, c.prefs = front ++ b :: back ∧ ∀ p ∈ front, portTier s c p ≠ some tier := by
  simp [firstInTier, List.find?_eq_some_iff_append]

/-- The class's list has no port in a tier below `tier`. -/
def NoneBelow (s : State) (c : ClassRecord) (tier : Nat) : Prop :=
  ∀ p ∈ c.prefs, ∀ other, portTier s c p = some other → tier ≤ other

theorem noneBelow_one : NoneBelow s c 1 := fun _ _ _ h => (portTier_bounds h).1

/-- A tier with no first port is empty, so the search goes on to the next one. -/
theorem NoneBelow.succ (h : NoneBelow s c tier) (hnone : firstInTier s c tier = none) :
    NoneBelow s c (tier + 1) := by
  intro p hp other hother
  have hne : other ≠ tier := by
    rintro rfl
    exact firstInTier_eq_none_iff.mp hnone p hp hother
  have := h p hp other hother
  omega

/-- The search answers a port from the tier it ends in, and every tier before that one is empty. -/
theorem bestPort_eq_some (h : bestPort s c = some b) :
    ∃ tier, firstInTier s c tier = some b ∧ NoneBelow s c tier := by
  simp only [bestPort, Option.or_eq_some_iff] at h
  obtain h1 | ⟨hno1, h2 | ⟨hno2, h3⟩⟩ := h
  · exact ⟨1, h1, noneBelow_one⟩
  · exact ⟨2, h2, noneBelow_one.succ hno1⟩
  · exact ⟨3, h3, (noneBelow_one.succ hno1).succ hno2⟩

theorem bestPort_eq_none_iff : bestPort s c = none ↔ ∀ p ∈ c.prefs, portTier s c p = none := by
  simp only [bestPort, Option.or_eq_none_iff]
  constructor
  · rintro ⟨hno1, hno2, hno3⟩ p hp
    have hfour := ((noneBelow_one.succ hno1).succ hno2).succ hno3
    refine Option.eq_none_iff_forall_ne_some.mpr fun tier htier => ?_
    have := hfour p hp tier htier
    have := portTier_bounds htier
    omega
  · intro hall
    have hno (tier : Nat) : firstInTier s c tier = none :=
      firstInTier_eq_none_iff.mpr fun p hp => by simp [hall p hp]
    exact ⟨hno 1, hno 2, hno 3⟩

end Sys2Proof.Machine

namespace Sys2Proof.Proofs

open Sys2Proof.Machine

/-- Settles O45: tiers by the cases of R112; the search through tiers 1, 2 and 3 ends in the lowest tier that has a
port, and with no port in these three no port of the list is usable. -/
theorem bestPortIsFirstOfLowestTier : Obligations.BestPortIsFirstOfLowestTier := by
  intro s c
  refine ⟨?tiers, bestPort_eq_none_iff, ?best⟩
  case tiers =>
    rintro p v (rfl : v = portVerdict s p)
    refine ⟨portTier_eq_none_iff, fun hbar => ⟨fun hup hv => ?_, fun hsus hv => ?_, ?_⟩⟩
    · rw [portTier_of_up hbar hup, if_neg hv]
    · rw [portTier_of_suspect hbar hsus, if_neg hv]
    · rintro (hup | hsus) hv
      · rw [portTier_of_up hbar hup, if_pos hv]
      · rw [portTier_of_suspect hbar hsus, if_pos hv]
  case best =>
    intro b hb
    obtain ⟨tier, hfirst, hlowest⟩ := bestPort_eq_some hb
    obtain ⟨htier, front, back, hsplit, hfront⟩ := firstInTier_eq_some_iff.mp hfirst
    exact ⟨front, back, tier, hsplit, htier, hlowest, hfront⟩

end Sys2Proof.Proofs
end

section
/-! PROOFS. What every event keeps: one closure condition for each meaning, with the tests of the meaning already made,
and the step that follows from them. The law of a block is then one `KeptByEvents`. -/

namespace Sys2Proof.Machine

/-! ## The commands, as the conditions under which they lead from one predicate to another -/

/-- The commands of the lanes and the port records keep `P` (Chapters 1 and 2). -/
structure KeptByLines (P : State → Prop) : Prop where
  count : ∀ s p, P s → P (s.setLane p (s.lanes.get p).countError)
  lane : ∀ s p l, l.errors = (s.lanes.get p).errors → l.peak = (s.lanes.get p).peak → P s →
    P (s.setLane p l)
  down : ∀ s p cause, (s.ports.get p).state ≠ .absent → (s.ports.get p).state ≠ .down → P s →
    P (enterDown p cause s)
  probation : ∀ s p, probationReady s p = true → P s → P (enterProbation p s)
  close : ∀ s e, P s →
    P { s with epoch := e, lanes := s.lanes.map fun l => if l.present then l.closeEpoch else l }
  deliver : ∀ s p e, P s → P (deliverEpoch p e s)
  revert : ∀ s p, awake s = true → (s.ports.get p).revertDue (clock s) = true → P s →
    P (issueTest (evaluateAll (s.setPort p (s.ports.get p).holdUp)))

/-- The commands of the station bus lead from `P` to `Q` (Chapters 3, 4 and 10). -/
structure KeptByBus (P Q : State → Prop) : Prop where
  follow : ∀ s n span, P s → Q (followNotice n span s)
  attempt : ∀ s rival e, awake s = true → busFree s = true → nextEntry s = some e → P s →
    Q (meetRival (buildEntry s e) rival (startSending e s))
  health : ∀ s taken n, awake s = true → s.bus.activity = .sending .health n → P s →
    Q (completeHealth taken s)
  digest : ∀ s target body n, awake s = true → s.bus.activity = .sending (.digest target body) n →
    P s → Q (completeDigest (.digest target body) s)
  high : ∀ s w, P s → Q (clockHigh w s)
  truncated : ∀ s w stage, awake s = true → s.bus.activity = .receiving stage → P s →
    Q (clockHigh w (truncate s))
  mark : ∀ s m, P s → Q (markInside m s)
  released : ∀ s, P s → Q (s.setBus { s.bus with hold := none })

/-- The commands of health reporting, of the peer view table and of the verdict unit lead from `P` to `Q`
(Chapters 5 and 6). -/
structure KeptByPeers (P Q : State → Prop) : Prop where
  absorb : ∀ s n, awake s = true → healthWaiting s = some n → P s → Q (requestRecompute (absorb n s))
  beacon : ∀ s, awake s = true → P s → Q (healthCause { s with beacon := .stopped })
  heldBack : ∀ s h, P s → Q (holdExpiry h s)
  stale : ∀ s id, awake s = true → P s → Q (requestRecompute (peerStale id s))
  remove : ∀ s id, awake s = true → P s → Q (removePeer id s)
  complete : ∀ s r, awake s = true → s.verdicts.activity = .recomputing r → P s →
    Q (completeRecompute r s)
  holdExpired : ∀ s sw, awake s = true →
    (s.verdicts.switches.get sw).holdTimer.isDue (clock s) = true → P s →
    Q (requestRecompute (s.setSwitch sw { s.verdicts.switches.get sw with holdTimer := .expired }))

/-- The commands of class steering and of the steering port lead from `P` to `Q` (Chapters 7 and 8). -/
structure KeptBySteering (P Q : State → Prop) : Prop where
  unbar : ∀ s c p, awake s = true → P s →
    Q (issueTest (evaluate c (s.setClass c ((s.classes.get c).unbar p))))
  issue : ∀ s, P s → Q (issueTest s)
  arrive : ∀ s m, awake s = true → s.mux.outstanding = some m → P s →
    Q (finishMove m.cls ((s.classes.get m.cls).arrive m.target) s)
  refuse : ∀ s m t, awake s = true → s.mux.outstanding = some m → P s →
    Q (finishMove m.cls ((s.classes.get m.cls).remain.bar m.target t) s)
  remain : ∀ s m, awake s = true → s.mux.outstanding = some m → P s →
    Q (finishMove m.cls (s.classes.get m.cls).remain s)
  answerLimit : ∀ s m, s.mux.port = .await → s.mux.outstanding = some m → P s →
    Q (answerLimitPassed m s)
  cancelLimit : ∀ s, s.mux.port = .cancelling → P s → Q (stall s)
  mrdy : ∀ s level, P s → Q (recordMrdy level s)
  offline : ∀ s, awake s = true → P s → Q (goOffline s)
  online : ∀ s, awake s = true → s.mux.port = .offline → P s → Q (comeOnline s)

/-- The commands of the station controller lead from `P` to `Q` (Chapter 9). -/
structure KeptByStation (P Q : State → Prop) : Prop where
  defaults : ∀ s, s.ctl.state = .unconfigured → P s →
    Q (configure defaultSettings (s.setStation { s.ctl with defaulted := true }))
  active : ∀ s, s.ctl.state = .joining → P s → Q (enterActive s)
  reset : ∀ s, awake s = true → P s → Q (warmReset (s.setStation { s.ctl with rstnHigh := false }))
  rstn : ∀ s level quiet, P s →
    Q (s.setStation { s.ctl with rstnHigh := level, resetQuiet := quiet })
  resetEnd : ∀ s, s.ctl.state = .resetting → P s → Q (endWarmReset s)
  hold : ∀ s, s.ctl.state ≠ .hold → P s → Q (enterHold s)
  cold : ∀ s pins, s.ctl.state = .hold → P s → Q (coldReset pins s)

/-- Every command leads from `P` to `Q`. -/
structure KeptByEvents (P Q : State → Prop) : Prop where
  stays : ∀ s, P s → Q s
  lines : KeptByLines P
  bus : KeptByBus P Q
  peers : KeptByPeers P Q
  steering : KeptBySteering P Q
  station : KeptByStation P Q

/-- A meaning answers a next state, and one with `P`. -/
def Leads (P : State → Prop) (r : Result) : Prop := ∃ t, r = .next t ∧ P t

variable {P Q : State → Prop} {s t : State}

theorem Leads.next (h : P t) : Leads P (.next t) := ⟨t, rfl, h⟩

theorem Leads.of_next {r : Result} (h : Leads P r) (ht : r = .next t) : P t := by
  obtain ⟨u, hu, hP⟩ := h
  cases hu.symm.trans ht
  exact hP

theorem Leads.mono {r : Result} (h : Leads P r) (hPQ : ∀ s, P s → Q s) : Leads Q r :=
  h.imp fun _ ⟨hr, ht⟩ => ⟨hr, hPQ _ ht⟩

/-! ## The commands of the lanes and the port records -/

namespace KeptByLines

variable (h : KeptByLines P) (hs : P s)
include h hs

theorem probationCheck (p : PortId) : P (probationCheck p s) := by
  unfold Machine.probationCheck
  split
  · next hready => exact h.probation s p hready hs
  · exact hs

theorem reportLoss (p : PortId) (cause : Cause) : P (reportLoss p cause s) := by
  unfold Machine.reportLoss
  split
  case h_1 => exact hs
  case h_2 => exact hs
  all_goals next hstate => exact h.down s p cause (by simp [hstate]) (by simp [hstate]) hs

theorem recordLevel (p : PortId) (level : Bool) : P (recordLevel p level s) :=
  h.lane s p { s.lanes.get p with level := some level } rfl rfl hs

theorem takeHello (p : PortId) : P (takeHello p s) := by
  unfold Machine.takeHello helloOnDown
  split
  case h_1 => exact hs
  case h_2 =>
    split
    · exact hs
    · exact h.probationCheck (h.lane s p { s.lanes.get p with helloSeen := true } rfl rfl hs) p
  all_goals exact h.lane s p { s.lanes.get p with helloTimer := helloTimerFrom s } rfl rfl hs

theorem deliverResult (before : Four Lane) (p : PortId) : P (deliverResult before s p) := by
  unfold Machine.deliverResult
  split
  · exact h.deliver s p _ hs
  · exact hs

theorem deliveries (before : Four Lane) (l : List PortId) :
    P (l.foldl (Machine.deliverResult before) s) := by
  induction l generalizing s with
  | nil => exact hs
  | cons p l ih => exact ih (h.deliverResult hs before p)

theorem serrPulse (p : PortId) : Leads P (execSerrPulse p s) := by
  refine .next ?_
  split
  · exact h.count s p hs
  · exact hs

theorem helloPulse (p : PortId) : Leads P (execHelloPulse p s) := by
  refine .next ?_
  split
  · exact h.takeHello hs p
  · exact hs

theorem signalLoss (p : PortId) : Leads P (execSignalLoss p s) := by
  have hlevel := h.recordLevel hs p false
  refine .next ?_
  split
  · dsimp only
    split
    · exact h.reportLoss hlevel p .signal
    · exact hlevel
  · exact hs

theorem signalPresent (p : PortId) : Leads P (execSignalPresent p s) := by
  have hlevel := h.recordLevel hs p true
  refine .next ?_
  split
  · dsimp only
    split
    · exact h.probationCheck hlevel p
    · exact hlevel
  · exact hs

theorem epochEnd : Leads P (execEpochEnd s) := by
  refine .next ?_
  unfold nextEpoch
  split
  · exact hs
  · split
    · next due _ =>
      split
      · exact h.deliveries (h.close s (startTimer due epochMs) hs) _ _
      · exact hs
    · exact hs

theorem helloSilence (p : PortId) : Leads P (execHelloSilence p s) := by
  have hlane := h.lane s p { s.lanes.get p with helloTimer := .stopped } rfl rfl hs
  refine .next ?_
  split
  · exact h.reportLoss hlane p .silent
  · exact hs

theorem revertTimerExpiry (p : PortId) : Leads P (execRevertTimerExpiry p s) := by
  refine .next ?_
  split
  · next hdue =>
    obtain ⟨hawake, hdue⟩ := Bool.and_eq_true_iff.mp hdue
    exact h.revert s p hawake hdue hs
  · exact hs

end KeptByLines

/-! ## The commands of the station bus -/

namespace KeptByBus

variable (h : KeptByBus P Q) (hstays : ∀ s, P s → Q s) (hs : P s)
include h hstays hs

theorem transmissionAttempt (rival : Option Notice) :
    Leads Q (execTransmissionAttempt rival s) := by
  refine .next ?_
  split
  · next hfree =>
    obtain ⟨hawake, hfree⟩ := Bool.and_eq_true_iff.mp hfree
    split
    · next e he => exact h.attempt s rival e hawake hfree he hs
    · exact hstays s hs
  · exact hstays s hs

theorem transmissionComplete (taken : Bool) : Leads Q (execTransmissionComplete taken s) := by
  refine .next ?_
  split
  · next hawake =>
    split
    · next n hn => exact h.health s taken n hawake hn hs
    · next target body n hn => exact h.digest s target body n hawake hn hs
    · exact hstays s hs
  · exact hstays s hs

theorem truncatedNotice : Leads Q (execTruncatedNotice s) := by
  refine .next ?_
  split
  · next hawake =>
    split
    · exact h.high s _ hs
    · next stage hstage => exact h.truncated s _ stage hawake hstage hs
    · exact hstays s hs
  · split
    · exact h.high s _ hs
    · exact hstays s hs

theorem holdLimitExpiry : Leads Q (execHoldLimitExpiry s) := by
  refine .next ?_
  split
  · exact h.released s hs
  · exact hstays s hs

end KeptByBus

/-! ## The commands of health reporting, the peer view table and the verdict unit -/

namespace KeptByPeers

variable (h : KeptByPeers P Q) (hstays : ∀ s, P s → Q s) (hs : P s)
include h hstays hs

theorem absorption : Leads Q (execAbsorption s) := by
  refine .next ?_
  split
  · next hidle =>
    obtain ⟨hawake, _⟩ := Bool.and_eq_true_iff.mp hidle
    split
    · next n hn => exact h.absorb s n hawake hn hs
    · exact hstays s hs
  · exact hstays s hs

theorem beaconExpiry : Leads Q (execBeaconExpiry s) := by
  refine .next ?_
  split
  · next hdue => exact h.beacon s (Bool.and_eq_true_iff.mp hdue).1 hs
  · exact hstays s hs

theorem freshnessExpiry (id : Nat) : Leads Q (execFreshnessExpiry id s) := by
  refine .next ?_
  split
  · next hdue =>
    split
    · exact h.heldBack s _ hs
    · exact h.stale s id (Bool.and_eq_true_iff.mp hdue).1 hs
  · exact hstays s hs

theorem expiryTimerExpiry (id : Nat) : Leads Q (execExpiryTimerExpiry id s) := by
  refine .next ?_
  split
  · next hdue =>
    split
    · exact h.heldBack s _ hs
    · exact h.remove s id (Bool.and_eq_true_iff.mp hdue).1 hs
  · exact hstays s hs

theorem recomputeCompletion : Leads Q (execRecomputeCompletion s) := by
  refine .next ?_
  split
  · next hawake =>
    split
    · next r hr => exact h.complete s r hawake hr hs
    · exact hstays s hs
  · exact hstays s hs

theorem condemnHoldExpiry (sw : SwitchId) : Leads Q (execCondemnHoldExpiry sw s) := by
  refine .next ?_
  split
  · next hdue =>
    obtain ⟨hawake, hdue⟩ := Bool.and_eq_true_iff.mp hdue
    exact h.holdExpired s sw hawake hdue hs
  · exact hstays s hs

end KeptByPeers

/-! ## The commands of class steering and of the steering port -/

/-- An answer is taken in AWAIT and in CANCELLING, for the outstanding move (R137). -/
theorem answerable_eq_some {m : Move} (h : answerable s = some m) :
    (s.mux.port = .await ∨ s.mux.port = .cancelling) ∧ s.mux.outstanding = some m := by
  unfold answerable at h
  split at h
  · next hport => exact ⟨.inl hport, h⟩
  · next hport => exact ⟨.inr hport, h⟩
  · cases h

namespace KeptBySteering

variable (h : KeptBySteering P Q) (hstays : ∀ s, P s → Q s) (hs : P s)
include h hstays hs

theorem backoffExpiry (c : ClassId) (p : PortId) : Leads Q (execBackoffExpiry c p s) := by
  refine .next ?_
  split
  · next hdue => exact h.unbar s c p (Bool.and_eq_true_iff.mp hdue).1 hs
  · exact hstays s hs

theorem answerDone : Leads Q (execAnswerDone s) := by
  refine .next ?_
  split
  · next hawake =>
    split
    · next m hm => exact h.arrive s m hawake (answerable_eq_some hm).2 hs
    · exact hstays s hs
  · exact hstays s hs

theorem answerRefused : Leads Q (execAnswerRefused s) := by
  refine .next ?_
  split
  · next hawake =>
    split
    · next m hm => exact h.refuse s m _ hawake (answerable_eq_some hm).2 hs
    · exact hstays s hs
  · exact hstays s hs

theorem answerCancelled : Leads Q (execAnswerCancelled s) := by
  refine .next ?_
  split
  · next hport =>
    obtain ⟨hawake, _⟩ := Bool.and_eq_true_iff.mp hport
    split
    · next m hm => exact h.remain s m hawake hm hs
    · exact hstays s hs
  · exact hstays s hs

theorem answerLimitExpiry : Leads Q (execAnswerLimitExpiry s) := by
  refine .next ?_
  split
  · next hdue =>
    obtain ⟨_, hport⟩ := Bool.and_eq_true_iff.mp hdue
    split
    · next m hm => exact h.answerLimit s m (eq_of_beq hport) hm hs
    · exact hstays s hs
  · exact hstays s hs

theorem cancelLimitExpiry : Leads Q (execCancelLimitExpiry s) := by
  refine .next ?_
  split
  · next hdue => exact h.cancelLimit s (eq_of_beq (Bool.and_eq_true_iff.mp hdue).2) hs
  · exact hstays s hs

theorem mrdyFall : Leads Q (execMrdyFall s) := by
  refine .next ?_
  split
  · next hawake => exact h.offline s hawake hs
  · split
    · exact h.mrdy s false hs
    · exact hstays s hs

theorem mrdyRise : Leads Q (execMrdyRise s) := by
  refine .next ?_
  split
  · next hawake =>
    split
    · next hport => exact h.online s hawake hport hs
    · exact h.mrdy s true hs
  · split
    · exact h.mrdy s true hs
    · exact hstays s hs

end KeptBySteering

/-! ## The commands of the station controller -/

namespace KeptByStation

variable (h : KeptByStation P Q) (hstays : ∀ s, P s → Q s) (hs : P s)
include h hstays hs

theorem configWaitExpiry : Leads Q (execConfigWaitExpiry s) := by
  refine .next ?_
  split
  · next hdue => exact h.defaults s (of_decide_eq_true (Bool.and_eq_true_iff.mp hdue).1) hs
  · exact hstays s hs

theorem joinTimeExpiry : Leads Q (execJoinTimeExpiry s) := by
  refine .next ?_
  split
  · next hdue => exact h.active s (of_decide_eq_true (Bool.and_eq_true_iff.mp hdue).1) hs
  · exact hstays s hs

theorem rstnFall : Leads Q (execRstnFall s) := by
  refine .next ?_
  split
  · next hawake => exact h.reset s hawake hs
  · split
    · exact h.rstn s false 0 hs
    · exact hstays s hs

theorem rstnRise : Leads Q (execRstnRise s) := by
  refine .next ?_
  split
  · exact hstays s hs
  · split
    · exact h.rstn s true 0 hs
    · exact h.rstn s true s.ctl.resetQuiet hs

theorem warmResetEnd : Leads Q (execWarmResetEnd s) := by
  refine .next ?_
  split
  · next hover => exact h.resetEnd s (of_decide_eq_true (Bool.and_eq_true_iff.mp hover).1) hs
  · exact hstays s hs

theorem supplyLow : Leads Q (execSupplyLow s) := by
  refine .next ?_
  split
  · exact hstays s hs
  · next hstate => exact h.hold s hstate hs

theorem supplyGood (pins : Pins) : Leads Q (execSupplyGood pins s) := by
  refine .next ?_
  split
  · next hstate => exact h.cold s pins hstate hs
  · exact hstays s hs

end KeptByStation

/-! ## Every command and every step -/

/-- Every command answers a next state, and one that all events lead to. -/
theorem KeptByEvents.exec (h : KeptByEvents P Q) (hs : P s) (c : Instr) : Leads Q (exec c s) := by
  obtain ⟨stays, lines, bus, peers, steering, station⟩ := h
  cases c with
  | serrPulse p => exact (lines.serrPulse hs p).mono stays
  | helloPulse p => exact (lines.helloPulse hs p).mono stays
  | signalLoss p => exact (lines.signalLoss hs p).mono stays
  | signalPresent p => exact (lines.signalPresent hs p).mono stays
  | epochEnd => exact (lines.epochEnd hs).mono stays
  | helloSilence p => exact (lines.helloSilence hs p).mono stays
  | revertTimerExpiry p => exact (lines.revertTimerExpiry hs p).mono stays
  | transmissionAttempt rival => exact bus.transmissionAttempt stays hs rival
  | transmissionComplete taken => exact bus.transmissionComplete stays hs taken
  | restartNotice n span => exact .next (bus.follow s n span hs)
  | configNotice n span => exact .next (bus.follow s n span hs)
  | queryNotice n span => exact .next (bus.follow s n span hs)
  | healthNotice n span => exact .next (bus.follow s n span hs)
  | digestNotice n span => exact .next (bus.follow s n span hs)
  | discardedNotice n span => exact .next (bus.follow s n span hs)
  | truncatedNotice => exact bus.truncatedNotice stays hs
  | holdLimitExpiry => exact bus.holdLimitExpiry stays hs
  | absorption => exact peers.absorption stays hs
  | beaconExpiry => exact peers.beaconExpiry stays hs
  | freshnessExpiry id => exact peers.freshnessExpiry stays hs id
  | expiryTimerExpiry id => exact peers.expiryTimerExpiry stays hs id
  | recomputeCompletion => exact peers.recomputeCompletion stays hs
  | condemnHoldExpiry sw => exact peers.condemnHoldExpiry stays hs sw
  | backoffExpiry c p => exact steering.backoffExpiry stays hs c p
  | issue => exact .next (steering.issue s hs)
  | answerDone => exact steering.answerDone stays hs
  | answerRefused => exact steering.answerRefused stays hs
  | answerCancelled => exact steering.answerCancelled stays hs
  | answerLimitExpiry => exact steering.answerLimitExpiry stays hs
  | cancelLimitExpiry => exact steering.cancelLimitExpiry stays hs
  | mrdyFall => exact steering.mrdyFall stays hs
  | mrdyRise => exact steering.mrdyRise stays hs
  | configWaitExpiry => exact station.configWaitExpiry stays hs
  | joinTimeExpiry => exact station.joinTimeExpiry stays hs
  | rstnFall => exact station.rstnFall stays hs
  | rstnRise => exact station.rstnRise stays hs
  | warmResetEnd => exact station.warmResetEnd stays hs
  | supplyLow => exact station.supplyLow stays hs
  | supplyGood pins => exact station.supplyGood stays hs pins
  | markInsideNotice m => exact .next (bus.mark s m hs)

/-- A step runs a command on the queue's rest, queues a due event, or lets a microsecond pass. -/
theorem step_keeps (h : KeptByEvents P P) (hpending : ∀ s q, P s → P { s with pending := q })
    (hmicro : ∀ s, P s → P (passMicro s)) (hs : P s) (ht : step s = .next t) : P t := by
  unfold step at ht
  split at ht
  · next c rest _ => exact (h.exec (hpending s rest hs) c).of_next ht
  · refine Leads.of_next (.next ?_) ht
    unfold idle
    split
    · exact hpending s _ hs
    · exact hmicro s hs

end Sys2Proof.Machine
end

section
/-! PROOFS. What the shared operations keep: evaluations, issues and the end of a move change the class records and the
steering port controller alone; what a change of port state hands onward; and what the following of a notice keeps of
a predicate that does not read the bus. -/

namespace Sys2Proof.Machine

open Safety

variable {P : State → Prop} {s t u : State}

/-! ## Evaluations and issues change the class records and the steering port controller alone -/

theorem onlySteers_trans (h : OnlySteers s t) (h' : OnlySteers t u) : OnlySteers s u := by
  obtain ⟨h1, h2, h3, h4, h5, h6, h7, h8, h9, h10, h11, h12⟩ := h
  obtain ⟨k1, k2, k3, k4, k5, k6, k7, k8, k9, k10, k11, k12⟩ := h'
  exact ⟨k1.trans h1, k2.trans h2, k3.trans h3, k4.trans h4, k5.trans h5, k6.trans h6, k7.trans h7,
    k8.trans h8, k9.trans h9, k10.trans h10, k11.trans h11, k12.trans h12⟩

theorem onlySteers_eq (h : OnlySteers s t) : t = { s with classes := t.classes, mux := t.mux } := by
  obtain ⟨h1, h2, h3, h4, h5, h6, h7, h8, h9, h10, -, -⟩ := h
  cases t
  simp_all

theorem evaluate_onlySteers (c : ClassId) (s : State) : OnlySteers s (evaluate c s) where
  lanes := evaluate_lanes s c
  epoch := evaluate_epoch s c
  ports := evaluate_ports s c
  opinions := evaluate_opinions s c
  bus := evaluate_bus s c
  beacon := evaluate_beacon s c
  view := evaluate_view s c
  verdicts := evaluate_verdicts s c
  ctl := evaluate_ctl s c
  pending := evaluate_pending s c
  mrdy := by rw [evaluate_mux]
  alertReleased := by rw [evaluate_mux]

theorem evaluateAll_onlySteers (s : State) : OnlySteers s (evaluateAll s) where
  lanes := evaluateAll_lanes s
  epoch := evaluateAll_epoch s
  ports := evaluateAll_ports s
  opinions := evaluateAll_opinions s
  bus := evaluateAll_bus s
  beacon := evaluateAll_beacon s
  view := evaluateAll_view s
  verdicts := evaluateAll_verdicts s
  ctl := evaluateAll_ctl s
  pending := evaluateAll_pending s
  mrdy := by rw [evaluateAll_mux]
  alertReleased := by rw [evaluateAll_mux]

theorem issueTest_onlySteers (s : State) : OnlySteers s (issueTest s) where
  lanes := issueTest_lanes s
  epoch := issueTest_epoch s
  ports := issueTest_ports s
  opinions := issueTest_opinions s
  bus := issueTest_bus s
  beacon := issueTest_beacon s
  view := issueTest_view s
  verdicts := issueTest_verdicts s
  ctl := issueTest_ctl s
  pending := issueTest_pending s
  mrdy := issueTest_mrdy s
  alertReleased := by unfold issueTest; split <;> rfl

theorem finishMove_onlySteers (c : ClassId) (r : ClassRecord) (s : State) :
    OnlySteers s (finishMove c r s) :=
  have hend : OnlySteers s ((s.setClass c r).setMux (s.mux.endMove .ready)) := by
    constructor <;> rfl
  onlySteers_trans hend (onlySteers_trans (evaluate_onlySteers c _) (issueTest_onlySteers _))

/-! ## What a change of port state hands onward -/

/-- Evaluations, issues and cancels keep `P` (R115 to R119, R135, R138). -/
structure KeptByEvaluation (P : State → Prop) : Prop where
  evaluate : ∀ s c, P s → P (evaluate c s)
  issueTest : ∀ s, P s → P (issueTest s)
  cancelTrigger : ∀ s p, P s → P (cancelTrigger p s)

/-- The operations that other blocks call on keep `P`, and `P` reads no own opinion. -/
structure KeptByOps (P : State → Prop) : Prop extends KeptByEvaluation P where
  opinions : ∀ s o, P s → P { s with opinions := o }
  cause : ∀ s, P s → P (healthCause s)
  request : ∀ s, P s → P (requestRecompute s)
  active : ∀ s, s.ctl.state = .joining → P s →
    P (s.setStation { s.ctl with state := .active, joinTime := .stopped })

theorem KeptByEvaluation.evaluateAll (h : KeptByEvaluation P) (hs : P s) : P (evaluateAll s) :=
  evaluateAll_keeps s P (fun c t ht => h.evaluate t c ht) hs

theorem KeptByEvaluation.evaluated (h : KeptByEvaluation P) (hs : P s) :
    P (Machine.issueTest (Machine.evaluateAll s)) := h.issueTest _ (h.evaluateAll hs)

namespace KeptByOps

variable (h : KeptByOps P)
include h

theorem rederive (hs : P s) : P (rederive s) := by
  unfold Machine.rederive
  dsimp only
  split
  · exact hs
  · exact h.request _ (h.cause _ (h.opinions s _ hs))

theorem enterActive (hstate : s.ctl.state = .joining) (hs : P s) : P (enterActive s) :=
  h.evaluated (h.cause _ (h.active s hstate hs))

theorem joiningTest (hs : P s) : P (joiningTest s) := by
  unfold Machine.joiningTest
  split
  · next htest => exact h.enterActive (of_decide_eq_true (Bool.and_eq_true_iff.mp htest).1) hs
  · exact hs

theorem portChanged (p : PortId) (hs : P s) : P (portChanged p s) :=
  h.joiningTest (h.evaluated (h.cancelTrigger _ p (h.rederive hs)))

end KeptByOps

/-! ## A predicate that reads no class record and nothing of the steering port controller -/

/-- `P` reads no class record and nothing of the steering port controller. -/
def SteerFree (P : State → Prop) : Prop :=
  ∀ s classes mux, P s → P { s with classes := classes, mux := mux }

namespace SteerFree

variable (h : SteerFree P)
include h

theorem onlySteers (hst : OnlySteers s t) (hs : P s) : P t :=
  onlySteers_eq hst ▸ h s t.classes t.mux hs

theorem evaluation : KeptByEvaluation P where
  evaluate s c hs := h.onlySteers (evaluate_onlySteers c s) hs
  issueTest s hs := h.onlySteers (issueTest_onlySteers s) hs
  cancelTrigger s p hs := by
    unfold Machine.cancelTrigger
    split
    · split
      · exact h s s.classes _ hs
      · exact hs
    · exact hs

theorem finishMove (c : ClassId) (r : ClassRecord) (hs : P s) : P (finishMove c r s) :=
  h.onlySteers (finishMove_onlySteers c r s) hs

theorem abandonMove (hs : P s) : P (abandonMove s) := by
  unfold Machine.abandonMove
  split
  · exact h.evaluation.evaluate _ _ (h s _ _ hs)
  · exact h s s.classes _ hs

/-- No command of class steering and of the steering port touches what `P` reads. -/
theorem steering : KeptBySteering P P where
  unbar s _ _ _ hs := h.evaluation.issueTest _ (h.evaluation.evaluate _ _ (h s _ s.mux hs))
  issue _ hs := h.evaluation.issueTest _ hs
  arrive _ _ _ _ hs := h.finishMove _ _ hs
  refuse _ _ _ _ _ hs := h.finishMove _ _ hs
  remain _ _ _ _ hs := h.finishMove _ _ hs
  answerLimit s m _ _ hs := by
    unfold answerLimitPassed
    split <;> exact h s s.classes _ hs
  cancelLimit s _ hs := h s s.classes _ hs
  mrdy s _ hs := h s s.classes _ hs
  offline s _ hs := by
    have hleft := h.abandonMove (h s s.classes { s.mux with mrdy := false } hs)
    unfold goOffline
    dsimp only
    split
    · exact h.evaluation.evaluateAll hleft
    · exact hleft
  online s _ _ hs :=
    have hitems : P (replaceAll (recordMrdy true s)) := h s _ _ hs
    h _ _ _ (h.evaluation.evaluated hitems)

end SteerFree

/-! ## A predicate that reads no lane and no port record -/

/-- A predicate that reads neither lanes nor port records, nor steering, is kept by the commands of both. -/
theorem KeptByOps.lines (h : KeptByOps P)
    (hlines : ∀ s lanes epoch ports, P s → P { s with lanes := lanes, epoch := epoch, ports := ports }) :
    KeptByLines P where
  count s _ hs := hlines s _ s.epoch s.ports hs
  lane s _ _ _ _ hs := hlines s _ s.epoch s.ports hs
  down s p _ _ _ hs := h.portChanged p (hlines s _ s.epoch _ hs)
  probation s p _ hs := h.portChanged p (hlines s _ s.epoch _ hs)
  close s e hs := hlines s _ e s.ports hs
  deliver s p e hs := by
    rcases deliverEpoch_cases s p e with h' | ⟨r, h'⟩ | h' | h' | ⟨r, h'⟩ <;> rw [h']
    · exact hs
    · exact hlines s s.lanes s.epoch _ hs
    · exact h.portChanged p (hlines s s.lanes s.epoch _ hs)
    · exact h.portChanged p (hlines s _ s.epoch _ hs)
    · exact h.portChanged p (hlines s s.lanes s.epoch _ hs)
  revert s _ _ _ hs := h.evaluated (hlines s s.lanes s.epoch _ hs)

/-! ## Entry to JOINING -/

theorem KeptByLines.laneStatusReports (h : KeptByLines P) (hs : P s) : P (laneStatusReports s) :=
  laneStatusReports_keeps s P (fun p _ ht => h.probationCheck ht p) hs

/-- The station `s` in JOINING with its window begun, before the beacon timer and the state cause (R153). -/
def joined (s : State) : State :=
  s.setStation
    { s.ctl with state := .joining, joinTime := startTimer (clock s) ((settings s).joinTime * 100) }

/-- The state that the end of a warm reset begins from: the bus-free time anew, the port state by MRDY (R145, R157). -/
def resetOver (s : State) : State :=
  { s with
    bus := { s.bus with sinceEvent := 0 }
    mux := { s.mux with port := portFromMrdy s.mux.mrdy } }

/-- The unconfigured station `s` after a warm reset, with CONFIG_WAIT started (R152). -/
def unjoined (s : State) : State :=
  s.setStation { s.ctl with state := .unconfigured, configWait := startTimer (clock s) configWaitMs }

theorem enterJoining_eq (s : State) :
    enterJoining s =
      issueTest (healthCause (if s.ctl.silenced then joined s else startBeacon (joined s))) := rfl

theorem endWarmReset_eq (s : State) :
    endWarmReset s =
      if s.ctl.config.isSome then
        laneStatusReports (requestRecompute (healthCause (enterJoining (resetOver s))))
      else laneStatusReports (unjoined (resetOver s)) := rfl

theorem KeptByOps.enterJoining (h : KeptByOps P) (hbeacon : ∀ s, P s → P (startBeacon s))
    (hs : P (joined s)) : P (enterJoining s) := by
  rw [enterJoining_eq]
  refine h.issueTest _ (h.cause _ ?_)
  split
  · exact hs
  · exact hbeacon _ hs

theorem KeptByOps.configure (h : KeptByOps P) (hlines : KeptByLines P)
    (hbeacon : ∀ s, P s → P (startBeacon s)) {c : Settings} (hs : P (joined (applySettings c s))) :
    P (configure c s) :=
  hlines.laneStatusReports (h.rederive (h.enterJoining hbeacon hs))

theorem KeptByOps.endWarmReset (h : KeptByOps P) (hlines : KeptByLines P)
    (hbeacon : ∀ s, P s → P (startBeacon s))
    (hjoined : s.ctl.config.isSome = true → P (joined (resetOver s)))
    (hunjoined : s.ctl.config = none → P (unjoined (resetOver s))) : P (endWarmReset s) := by
  rw [endWarmReset_eq]
  split
  · next hconfig =>
    exact hlines.laneStatusReports (h.request _ (h.cause _ (h.enterJoining hbeacon (hjoined hconfig))))
  · next hconfig =>
    exact hlines.laneStatusReports (hunjoined (Option.not_isSome_iff_eq_none.mp hconfig))

/-! ## The peer view table at a completion -/

theorem applyHeld_keeps (hstale : ∀ s id, P s → P (peerStale id s))
    (hremoved : ∀ s id, P s → P (peerRemoved id s)) (x : HeldExpiry) (hs : P s) :
    P (applyHeld x s).1 := by
  unfold applyHeld
  cases x with
  | freshness id =>
    dsimp only
    split
    · exact hstale s id hs
    · exact hs
  | removal id =>
    dsimp only
    split
    · exact hremoved s id hs
    · exact hs

theorem applyAllHeld_keeps (hstale : ∀ s id, P s → P (peerStale id s))
    (hremoved : ∀ s id, P s → P (peerRemoved id s)) (xs : List HeldExpiry) (hs : P s) :
    P (applyAllHeld xs s).1 := by
  induction xs generalizing s with
  | nil => exact hs
  | cons x xs ih => exact ih (applyHeld_keeps hstale hremoved x hs)

/-- The changes that the peer view table held back are an absorption, and expiries of its entries (R90). -/
theorem releaseHeld_keeps (habsorb : ∀ s n, healthWaiting s = some n → P s → P (absorb n s))
    (hnone : ∀ s, P s → P { s with view := { s.view with held := [] } })
    (hstale : ∀ s id, P s → P (peerStale id s)) (hremoved : ∀ s id, P s → P (peerRemoved id s))
    (hs : P s) : P (releaseHeld s).1 := by
  refine applyAllHeld_keeps hstale hremoved _ (hnone _ ?_)
  unfold absorbWaiting
  split
  · next n hn => exact habsorb s n hn hs
  · exact hs

theorem completeRecompute_keeps {r : Recompute} (hwrite : P (writeVerdicts r s))
    (habsorb : ∀ s n, healthWaiting s = some n → P s → P (absorb n s))
    (hnone : ∀ s, P s → P { s with view := { s.view with held := [] } })
    (hstale : ∀ s id, P s → P (peerStale id s)) (hremoved : ∀ s id, P s → P (peerRemoved id s))
    (hstart : ∀ s, P s → P (startRecompute s)) : P (completeRecompute r s) := by
  have hheld := releaseHeld_keeps habsorb hnone hstale hremoved hwrite
  unfold completeRecompute
  dsimp only
  split
  · exact hstart _ hheld
  · exact hheld

/-! ## A predicate that does not read the station bus -/

/-- `P` reads nothing of the station bus: not the bus controller, the beacon timer, the silencing, the
late-configuration flag or CONFIG_WAIT; or no more than the notice in the receive slot, which stays or goes, and that a
station which is silenced stays so. -/
def BusFree (P : State → Prop) : Prop :=
  ∀ s bus beacon silenced late wait, bus.slot = s.bus.slot ∨ bus.slot = none →
    (s.ctl.silenced = true → silenced = true) → P s →
    P { s with
      bus := bus, beacon := beacon
      ctl := { s.ctl with silenced := silenced, lateConfig := late, configWait := wait } }

namespace BusFree

variable (h : BusFree P)
include h

theorem setBus (b : Bus) (hslot : b.slot = s.bus.slot ∨ b.slot = none) (hs : P s) : P (s.setBus b) :=
  h s b s.beacon s.ctl.silenced s.ctl.lateConfig s.ctl.configWait hslot (fun q => q) hs

theorem startBeacon (hs : P s) : P (startBeacon s) :=
  h s s.bus _ s.ctl.silenced s.ctl.lateConfig s.ctl.configWait (.inl rfl) (fun q => q) hs

theorem healthCause (hs : P s) : P (healthCause s) := by
  unfold Machine.healthCause healthDue
  split
  · split
    · exact h.setBus _ (.inl rfl) hs
    · split
      · exact hs
      · exact h.setBus _ (.inl rfl) hs
  · exact hs

theorem silence (hs : P s) : P (silence s) := by
  unfold Machine.silence
  split
  · exact hs
  · exact h s _ .stopped true s.ctl.lateConfig s.ctl.configWait (.inl rfl) (fun _ => rfl) hs

theorem loseAttempt (stage : Stage) (hs : P s) : P (loseAttempt stage s) := h.setBus _ (.inl rfl) hs

theorem loseTo (winner : Notice) (i : Nat) (hs : P s) : P (loseTo winner i s) := by
  unfold Machine.loseTo
  dsimp only
  split
  · exact h.silence (h.loseAttempt _ hs)
  · exact h.loseAttempt _ hs

theorem meetNotice (n : Notice) (first last : Nat) (hs : P s) : P (meetNotice n first last s) := by
  rcases meetNotice_cases s n first last with h' | ⟨_, h'⟩ | ⟨_, _, i, _, _, _, _, h'⟩ <;> rw [h']
  · exact hs
  · exact h.setBus _ (.inl rfl) hs
  · exact h.loseTo n i hs

theorem passSender (n : Notice) (hs : P s) : P (passSender n s) := by
  rcases passSender_cases s n with h' | ⟨_, h'⟩ <;> rw [h']
  · exact hs
  · split
    · exact h.silence (h.setBus _ (.inl rfl) hs)
    · exact h.setBus _ (.inl rfl) hs

theorem openHoldSlot (header : Header) (hs : P s) : P (openHoldSlot header s) := by
  rcases openHoldSlot_cases s header with h' | ⟨_, h'⟩ <;> rw [h']
  · exact hs
  · exact h.setBus _ (.inl rfl) hs

theorem settleNotice (n : Notice) {o : NoticeOutcome}
    (hstore : o = .taken → ∀ wait, P s →
      P { s with bus := { s.bus with slot := some n }, ctl := { s.ctl with configWait := wait } })
    (hs : P s) : P (settleNotice n o s) := by
  cases o with
  | discarded | ignored | refused => exact hs
  | clash => exact h.silence hs
  | late => exact h s s.bus s.beacon s.ctl.silenced true s.ctl.configWait (.inl rfl) (fun q => q) hs
  | overrun => exact h.setBus _ (.inl rfl) hs
  | taken =>
    simp only [Machine.settleNotice, storeNotice]
    split
    · exact hstore rfl .stopped hs
    · exact hstore rfl s.ctl.configWait hs

theorem endNotice (n : Notice)
    (hstore : noticeOutcome s n = .taken → ∀ wait, P s →
      P { s with bus := { s.bus with slot := some n }, ctl := { s.ctl with configWait := wait } })
    (hs : P s) : P (endNotice n s) := by
  rcases endNotice_cases s n with h' | ⟨_, _, h'⟩
  · rw [h']
    exact hs
  · split at h' <;> rw [h']
    · exact h.setBus _ (.inl rfl) hs
    · exact h.setBus _ (.inl rfl) (h.settleNotice n hstore hs)

theorem dropTaken (hs : P s) : P (dropTaken s) := by
  unfold Machine.dropTaken
  split
  · exact h.setBus _ (.inr rfl) hs
  · exact hs

theorem truncate (hs : P s) : P (truncate s) := by
  unfold Machine.truncate
  exact h.setBus _ (.inl rfl) (h.dropTaken hs)

theorem markInside (m : Mark) (hs : P s) : P (markInside m s) := by
  have hstart : P (startMarkSeen s) := by
    unfold startMarkSeen reopen
    split
    · exact h.setBus _ (.inl rfl) hs
    · exact h.setBus _ (.inl rfl) (h.dropTaken hs)
    · exact h.setBus _ (.inl rfl) hs
  have hstop : P (stopMarkSeen s) := by
    unfold stopMarkSeen
    split
    · exact h.setBus _ (.inl rfl) hs
    · exact h.truncate hs
    · exact hs
  unfold Machine.markInside
  split
  · cases m with
    | start => exact hstart
    | stop => exact hstop
  · split
    · cases m <;> exact h.setBus _ (.inl rfl) hs
    · exact hs

theorem meetRival (own : Notice) (rival : Option Notice) (hs : P s) : P (meetRival own rival s) := by
  unfold Machine.meetRival
  split
  · exact hs
  · split
    · exact h.setBus _ (.inl rfl) hs
    · exact h.loseTo _ _ hs

/-- The commands of the bus keep a predicate that does not read the bus, if the storing of a notice that is taken does,
and the three notices that are handed over do: a RESTART, a CONFIG in UNCONFIGURED, and a QUERY, which clears the peaks
(R51). -/
theorem keptByBus
    (hstore : ∀ s n, noticeOutcome s n = .taken → ∀ wait, P s →
      P { s with bus := { s.bus with slot := some n }, ctl := { s.ctl with configWait := wait } })
    (hreset : ∀ s, P s → P (warmReset s))
    (hconfig : ∀ s body, s.ctl.state = .unconfigured → P s → P (configure (readConfig body) s))
    (hpeaks : ∀ s, P s → P { s with lanes := s.lanes.map fun l => { l with peak := 0 } }) :
    KeptByBus P P := by
  have hand : ∀ n s, P s → P (handOver n s) := by
    intro n s hs
    have hempty := h.setBus { s.bus with slot := none } (.inr rfl) hs
    unfold handOver
    dsimp only
    split
    · exact hreset _ hempty
    · split
      · next hstate => exact hconfig _ _ hstate hempty
      · exact hempty
    · exact h { s with lanes := s.lanes.map fun l => { l with peak := 0 } } _ s.beacon s.ctl.silenced
        false s.ctl.configWait (.inr rfl) (fun q => q) (hpeaks s hs)
    · exact hs
  have close : ∀ header s, P s → P (closeNotice header s) := by
    intro header s hs
    rcases closeNotice_cases s header with h' | ⟨_, _, h' | ⟨n, _, _, h'⟩⟩ <;> rw [h']
    · exact hs
    · exact h.setBus _ (.inl rfl) hs
    · exact hand n _ (h.setBus _ (.inl rfl) hs)
  exact
    { follow := fun s n span hs =>
        followNotice_keeps s P n span (fun _ _ ht => h.setBus _ (.inl rfl) ht) (fun _ _ ht => h.setBus _ (.inl rfl) ht)
          (fun first last _ ht => h.meetNotice n first last ht) (fun _ ht => h.passSender n ht)
          (fun _ ht => h.openHoldSlot n.header ht) (fun t ht => h.endNotice n (hstore t n) ht)
          (fun t ht => close n.header t ht) (fun _ ht => h.setBus _ (.inl rfl) ht) hs
      attempt := fun s rival e _ _ _ hs => h.meetRival _ rival (h.setBus _ (.inl rfl) hs)
      health := fun s taken n _ _ hs => h.startBeacon (h.setBus _ (.inl rfl) hs)
      digest := fun s target body n _ _ hs => h.setBus _ (.inl rfl) hs
      high := fun s w hs => h.setBus _ (.inl rfl) hs
      truncated := fun s w stage _ _ hs => h.setBus _ (.inl rfl) (h.truncate hs)
      mark := fun s m hs => h.markInside m hs
      released := fun s hs => h.setBus _ (.inl rfl) hs }

end BusFree

/-! ## A predicate that reads neither the peer view table nor the verdict unit -/

/-- The commands of both keep a predicate that reads neither, nor the bus. -/
theorem KeptByOps.peers (h : KeptByOps P) (hbus : BusFree P)
    (hread : ∀ s view verdicts, P s → P { s with view := view, verdicts := verdicts }) :
    KeptByPeers P P := by
  have hentries {s : State} (entries : List PeerEntry) (hs : P s) : P (s.setEntries entries) :=
    hread s _ s.verdicts hs
  have habsorb {s : State} (n : Notice) (hs : P s) : P (Machine.absorb n s) :=
    hread _ _ s.verdicts (hbus.setBus { s.bus with slot := none, hold := none } (.inr rfl) hs)
  have hwrite {s : State} (r : Recompute) (hs : P s) : P (writeVerdicts r s) := by
    unfold writeVerdicts
    dsimp only
    split
    · exact h.evaluated (hread s s.view _ hs)
    · exact hread s s.view _ hs
  exact
    { absorb := fun s n _ _ hs => h.request _ (habsorb n hs)
      beacon := fun s _ hs => h.cause _
        (hbus s s.bus .stopped s.ctl.silenced s.ctl.lateConfig s.ctl.configWait (.inl rfl) (fun q => q) hs)
      heldBack := fun s x hs => by
        unfold Machine.holdExpiry
        split
        · exact hs
        · exact hread s _ s.verdicts hs
      stale := fun s id _ hs => h.request _ (hentries _ hs)
      remove := fun s id _ hs => by
        unfold Machine.removePeer
        split
        · exact h.request _ (hentries _ hs)
        · exact hentries _ hs
      complete := fun s r _ _ hs =>
        completeRecompute_keeps (hwrite r hs) (fun _ n _ ht => habsorb n ht)
          (fun t ht => hread t _ t.verdicts ht) (fun _ _ ht => hentries _ ht)
          (fun _ _ ht => hentries _ ht) (fun t ht => hread t t.view _ ht)
      holdExpired := fun s sw _ _ hs => h.request _ (hread s s.view _ hs) }

end Sys2Proof.Machine
end

section
/-! PROOFS. Every command completes and leaves the queue of waiting commands (00 section 4.5): the queue is a field that
no operation writes. -/

namespace Sys2Proof.Machine

/-- The queue of waiting commands is `q`. -/
def HasPending (q : List Instr) (s : State) : Prop := s.pending = q

variable {q : List Instr}

theorem hasPending_steerFree : SteerFree (HasPending q) := fun _ _ _ hs => hs

theorem hasPending_ops : KeptByOps (HasPending q) where
  toKeptByEvaluation := hasPending_steerFree.evaluation
  opinions _ _ hs := hs
  cause s hs := (healthCause_pending s).trans hs
  request s hs := (requestRecompute_pending s).trans hs
  active _ _ hs := hs

theorem hasPending_busFree : BusFree (HasPending q) := fun _ _ _ _ _ _ _ _ hs => hs

theorem hasPending_lines : KeptByLines (HasPending q) :=
  hasPending_ops.lines fun _ _ _ _ hs => hs

theorem hasPending_configure {s : State} {c : Settings} (hs : HasPending q s) :
    HasPending q (configure c s) :=
  hasPending_ops.configure hasPending_lines (fun _ => hasPending_busFree.startBeacon) hs

theorem hasPending_station : KeptByStation (HasPending q) (HasPending q) where
  defaults _ _ hs := hasPending_configure hs
  active s _ hs := hasPending_ops.enterActive ‹_› hs
  reset _ _ hs := hs
  rstn _ _ _ hs := hs
  resetEnd s _ hs := (endWarmReset_pending s).trans hs
  hold _ _ hs := hs
  cold s pins _ hs := (coldReset_pending s pins).trans hs

theorem hasPending_events : KeptByEvents (HasPending q) (HasPending q) where
  stays _ hs := hs
  lines := hasPending_lines
  bus := hasPending_busFree.keptByBus (fun _ _ _ _ hs => hs) (fun _ hs => hs) (fun _ _ _ hs => hasPending_configure hs)
    (fun _ hs => hs)
  peers := hasPending_ops.peers hasPending_busFree fun _ _ _ hs => hs
  steering := hasPending_steerFree.steering
  station := hasPending_station

end Sys2Proof.Machine

namespace Sys2Proof.Proofs

open Sys2Proof.Machine

/-- Settles O3: every meaning answers a next state, and no operation writes the queue. -/
theorem everyCommandCompletes : Obligations.EveryCommandCompletes := fun c _ =>
  hasPending_events.exec rfl c

end Sys2Proof.Proofs
end
section
/-! PROOFS. The law of the verdict unit (R101 to R103): a completion sets condition flag, verdict and hold timer
together, the expiry of a hold timer keeps it from being stopped, and nothing else writes them. -/

namespace Sys2Proof.Machine

open Safety

variable {s t : State}

/-! ## One switch -/

/-- The law of a switch record reads the verdict, the condition flag and the hold timer alone. -/
theorem switchLaw_congr {v w : SwitchRecord} (hverdict : w.verdict = v.verdict)
    (hcondition : w.condition = v.condition) (htimer : w.holdTimer = v.holdTimer)
    (h : SwitchLaw v) : SwitchLaw w where
  condemned_iff := by rw [hverdict, hcondition, htimer]; exact h.condemned_iff
  condition_stopped := by rw [hcondition, htimer]; exact h.condition_stopped

theorem lesserVerdict_ne_condemned (w : SwitchRecord) : lesserVerdict w ≠ .condemned := by
  unfold lesserVerdict
  split <;> simp

theorem switchLaw_condemn (w : SwitchRecord) : SwitchLaw w.condemn where
  condemned_iff := by simp [SwitchRecord.condemn]
  condition_stopped := by simp [SwitchRecord.condemn]

theorem switchLaw_lower (w : SwitchRecord) : SwitchLaw w.lower where
  condemned_iff := by simp [SwitchRecord.lower, lesserVerdict_ne_condemned]
  condition_stopped := by simp [SwitchRecord.lower]

/-- A hold that begins or goes on keeps CONDEMNED with a timer that is not stopped (R102). -/
theorem switchLaw_held {w : SwitchRecord} (hverdict : w.verdict = .condemned) {timer : Timer}
    (htimer : timer ≠ .stopped) : SwitchLaw { w with condition := false, holdTimer := timer } where
  condemned_iff := by simp [hverdict, htimer]
  condition_stopped := by simp

theorem switchLaw_unwind {w : SwitchRecord} (hverdict : w.verdict = .condemned) (time : Instant)
    (condemnHold : Nat) : SwitchLaw (w.unwind time condemnHold) := by
  unfold SwitchRecord.unwind
  split
  · split
    · exact switchLaw_lower w
    · exact switchLaw_held hverdict (by simp [startTimer])
  · next due hdue =>
    have hheld := switchLaw_held hverdict (timer := w.holdTimer) (by simp [hdue])
    exact hheld
  · exact switchLaw_lower w

theorem switchLaw_completeSwitch (s : State) (r : Recompute) (sw : SwitchId) :
    SwitchLaw (completeSwitch s r sw) := by
  unfold completeSwitch
  dsimp only
  split
  · exact switchLaw_condemn _
  · split
    · next hverdict => exact switchLaw_unwind hverdict _ _
    · exact switchLaw_lower _

theorem switchLaw_expired {w : SwitchRecord} (h : SwitchLaw w) {now : Instant}
    (hdue : w.holdTimer.isDue now = true) : SwitchLaw { w with holdTimer := .expired } := by
  have hrunning : w.holdTimer ≠ .stopped := by
    intro hstopped
    simp [hstopped, Timer.isDue] at hdue
  have hcondition : w.condition ≠ true := fun hc => hrunning (h.condition_stopped hc)
  exact
    { condemned_iff := by simpa [hrunning] using h.condemned_iff
      condition_stopped := fun hc => absurd hc hcondition }

/-! ## The operations -/

/-- The law reads whether the station is in HOLD, and of every switch the three fields of its law. -/
theorem verdictLaw_congr (hstate : s.ctl.state = .hold → t.ctl.state = .hold)
    (hverdict : ∀ sw, (t.verdicts.switches.get sw).verdict = (s.verdicts.switches.get sw).verdict)
    (hcondition : ∀ sw,
      (t.verdicts.switches.get sw).condition = (s.verdicts.switches.get sw).condition)
    (htimer : ∀ sw,
      (t.verdicts.switches.get sw).holdTimer = (s.verdicts.switches.get sw).holdTimer)
    (h : VerdictLaw s) : VerdictLaw t := fun hhold sw =>
  switchLaw_congr (hverdict sw) (hcondition sw) (htimer sw) (h (mt hstate hhold) sw)

theorem verdictLaw_requestRecompute (hs : VerdictLaw s) : VerdictLaw (requestRecompute s) :=
  verdictLaw_congr (by simp) (by simp) (by simp) (by simp) hs

theorem verdictLaw_startRecompute (hs : VerdictLaw s) : VerdictLaw (startRecompute s) := by
  refine verdictLaw_congr (by simp) ?_ ?_ ?_ hs <;> simp [startRecompute_switch]

theorem verdictLaw_healthCause (hs : VerdictLaw s) : VerdictLaw (healthCause s) :=
  verdictLaw_congr (by simp) (by simp) (by simp) (by simp) hs

theorem verdictLaw_of_awake (hawake : awake s = true) (hs : VerdictLaw s) (sw : SwitchId) :
    SwitchLaw (s.verdicts.switches.get sw) :=
  hs (by rintro hhold; simp [awake, hhold] at hawake) sw

/-- The law in a state that a reset of the verdict unit leaves (R107). -/
theorem verdictLaw_fresh (h : t.verdicts = freshVerdicts) : VerdictLaw t := by
  intro _ sw
  rw [h]
  constructor <;> simp [freshVerdicts, freshSwitch]

theorem verdictLaw_steerFree : SteerFree VerdictLaw := fun _ _ _ hs => hs

theorem verdictLaw_ops : KeptByOps VerdictLaw where
  toKeptByEvaluation := verdictLaw_steerFree.evaluation
  opinions _ _ hs := hs
  cause _ hs := verdictLaw_healthCause hs
  request _ hs := verdictLaw_requestRecompute hs
  active s hstate hs :=
    verdictLaw_congr (s := s) (by simp [hstate]) (fun _ => rfl) (fun _ => rfl) (fun _ => rfl) hs

theorem verdictLaw_busFree : BusFree VerdictLaw := fun _ _ _ _ _ _ _ _ hs => hs

theorem verdictLaw_lines : KeptByLines VerdictLaw := verdictLaw_ops.lines fun _ _ _ _ hs => hs

/-- A change of the station controller out of a state other than HOLD keeps the law. -/
theorem verdictLaw_setStation {c : Station} (hstate : s.ctl.state ≠ .hold) (hs : VerdictLaw s) :
    VerdictLaw (s.setStation c) := fun _ sw => hs hstate sw

theorem verdictLaw_configure {c : Settings} (hstate : s.ctl.state = .unconfigured)
    (hs : VerdictLaw s) : VerdictLaw (configure c s) :=
  verdictLaw_ops.configure verdictLaw_lines (fun _ => verdictLaw_busFree.startBeacon)
    (verdictLaw_setStation (s := applySettings c s) (by simp [hstate]) hs)

theorem verdictLaw_writeVerdicts (r : Recompute) : VerdictLaw (writeVerdicts r s) := by
  have hwritten : VerdictLaw
      { s with verdicts := { s.verdicts with switches := completeSwitches s r, activity := .idle } } := by
    intro _ sw
    have hlaw := switchLaw_completeSwitch s r sw
    simpa [completeSwitches] using hlaw
  unfold writeVerdicts
  dsimp only
  split
  · exact verdictLaw_ops.evaluated hwritten
  · exact hwritten

theorem verdictLaw_peers : KeptByPeers VerdictLaw VerdictLaw where
  absorb _ _ _ _ hs := verdictLaw_requestRecompute hs
  beacon _ _ hs := verdictLaw_healthCause hs
  heldBack s h hs := verdictLaw_congr (by simp) (by simp) (by simp) (by simp) hs
  stale _ _ _ hs := verdictLaw_requestRecompute hs
  remove s id _ hs := by
    unfold removePeer
    split
    · exact verdictLaw_requestRecompute hs
    · exact hs
  complete _ r _ _ _ :=
    completeRecompute_keeps (verdictLaw_writeVerdicts r) (fun _ _ _ h => h) (fun _ h => h)
      (fun _ _ h => h) (fun _ _ h => h) (fun _ h => verdictLaw_startRecompute h)
  holdExpired s sw hawake hdue hs := by
    refine verdictLaw_requestRecompute fun _ x => ?_
    have hlaw := verdictLaw_of_awake hawake hs
    rw [State.setSwitch_switches, Eight.get_set]
    split
    · exact switchLaw_expired (hlaw sw) hdue
    · exact hlaw x

theorem verdictLaw_station : KeptByStation VerdictLaw VerdictLaw where
  defaults s hstate hs :=
    verdictLaw_configure hstate (verdictLaw_setStation (by simp [hstate]) hs)
  active _ hstate hs := verdictLaw_ops.enterActive hstate hs
  reset _ _ _ := verdictLaw_fresh rfl
  rstn _ _ _ hs := hs
  resetEnd s hstate hs :=
    have hnot : (resetOver s).ctl.state ≠ .hold := by simp [resetOver, hstate]
    verdictLaw_ops.endWarmReset verdictLaw_lines (fun _ => verdictLaw_busFree.startBeacon)
      (fun _ => verdictLaw_setStation hnot hs) (fun _ => verdictLaw_setStation hnot hs)
  hold _ _ _ := fun hhold => absurd rfl hhold
  cold s pins _ _ := by
    refine verdictLaw_fresh ?_
    unfold coldReset
    dsimp only
    split <;> rfl

theorem verdictLaw_events : KeptByEvents VerdictLaw VerdictLaw where
  stays _ hs := hs
  lines := verdictLaw_lines
  bus := verdictLaw_busFree.keptByBus (fun _ _ _ _ hs => hs) (fun _ _ => verdictLaw_fresh rfl)
    (fun _ _ hstate hs => verdictLaw_configure hstate hs) (fun _ hs => hs)
  peers := verdictLaw_peers
  steering := verdictLaw_steerFree.steering
  station := verdictLaw_station

@[simp] theorem Station.tick_state (c : Station) : c.tick.state = c.state := by
  unfold Station.tick
  split <;> rfl

@[simp] theorem VerdictUnit.tick_switches (v : VerdictUnit) : v.tick.switches = v.switches := by
  unfold VerdictUnit.tick
  split <;> rfl

theorem verdictLaw_passMicro (hs : VerdictLaw s) : VerdictLaw (passMicro s) := by
  unfold passMicro
  split
  · exact hs
  · exact verdictLaw_congr (s := s) (by simp) (by simp) (by simp) (by simp) hs

end Sys2Proof.Machine

namespace Sys2Proof.Proofs

open Sys2Proof.Machine Sys2Proof.Safety

/-- Settles O13: every event keeps the law, by the cases of R101 and R102 at a completion and by R103 at an expiry. -/
theorem verdictsKeepTheirLaw : Obligations.VerdictsKeepTheirLaw := fun _ _ hs ht =>
  step_keeps verdictLaw_events (fun _ _ h => h) (fun _ h => verdictLaw_passMicro h) hs ht

end Sys2Proof.Proofs
end

section
/-! PROOFS. The law of the peer view table (R83, R84): an absorption puts the entry of a peer in its place, an expiry
ages or removes one, and the receive slot holds a HEALTH of a peer alone. -/

namespace Sys2Proof.Machine

open Safety

variable {s t : State}

/-! ## The table -/

/-- The ids of the table for the station `own`: in increasing order, those of other stations alone (R84). -/
def TableLaw (own : Nat) (entries : List PeerEntry) : Prop :=
  (entries.map PeerEntry.id).Pairwise (· < ·) ∧
    ∀ e ∈ entries, isStationId e.id = true ∧ e.id ≠ own

theorem peersLaw_iff :
    PeersLaw s ↔ isStationId s.ctl.id = true ∧ TableLaw s.ctl.id s.view.entries ∧
      ∀ n, s.bus.slot = some n → readKind n.header.kind = some .health →
        isStationId n.header.sender.toNat = true ∧ n.header.sender.toNat ≠ s.ctl.id :=
  ⟨fun ⟨hown, hincreasing, hids, hslot⟩ => ⟨hown, ⟨hincreasing, hids⟩, hslot⟩,
    fun ⟨hown, ⟨hincreasing, hids⟩, hslot⟩ => ⟨hown, hincreasing, hids, hslot⟩⟩

variable {own : Nat} {entries : List PeerEntry}

/-- The law of the table reads the ids alone. -/
theorem tableLaw_of_ids {other : List PeerEntry}
    (h : other.map PeerEntry.id = entries.map PeerEntry.id) (hlaw : TableLaw own entries) :
    TableLaw own other := by
  obtain ⟨hincreasing, hids⟩ := hlaw
  refine ⟨h ▸ hincreasing, fun e he => ?_⟩
  obtain ⟨e', he', hid⟩ := List.mem_map.mp (h ▸ List.mem_map_of_mem he : e.id ∈ entries.map _)
  exact hid ▸ hids e' he'

theorem tableLaw_erasePeer (id : Nat) (h : TableLaw own entries) :
    TableLaw own (erasePeer entries id) :=
  ⟨h.1.sublist (List.filter_sublist.map _), fun e he => h.2 e ((mem_erasePeer _ _ _).mp he).1⟩

theorem tableLaw_storePeer {e : PeerEntry} (hid : isStationId e.id = true ∧ e.id ≠ own)
    (h : TableLaw own entries) : TableLaw own (storePeer entries e) := by
  have herased := tableLaw_erasePeer e.id h
  refine ⟨placePeer_increasing _ _ herased.1 fun x hx => ((mem_erasePeer _ _ _).mp hx).2, ?_⟩
  intro x hx
  rcases (mem_storePeer _ _ _).mp hx with rfl | ⟨hx, _⟩
  · exact hid
  · exact h.2 x hx

/-! ## The operations -/

/-- The law reads the id, the ids of the table and the receive slot alone. -/
theorem peersLaw_congr (h : PeersLaw s) (hid : t.ctl.id = s.ctl.id)
    (hids : t.view.entries.map PeerEntry.id = s.view.entries.map PeerEntry.id)
    (hslot : t.bus.slot = s.bus.slot ∨ t.bus.slot = none) : PeersLaw t := by
  obtain ⟨hown, htable, hstored⟩ := peersLaw_iff.mp h
  refine peersLaw_iff.mpr ⟨hid ▸ hown, hid ▸ tableLaw_of_ids hids htable, fun n hn => ?_⟩
  rcases hslot with hslot | hslot
  · rw [hid]
    exact hstored n (hslot ▸ hn)
  · rw [hslot] at hn
    cases hn

theorem healthCause_slot (s : State) : (healthCause s).bus.slot = s.bus.slot := by
  unfold healthCause
  split
  · rw [healthDue_bus]
  · rfl

/-- The law in a state with an empty table and an empty slot, as every reset leaves them (R60, R93). -/
theorem peersLaw_empty (hid : isStationId t.ctl.id = true) (htable : t.view.entries = [])
    (hslot : t.bus.slot = none) : PeersLaw t :=
  peersLaw_iff.mpr ⟨hid, by simp [htable, TableLaw], fun n hn => by simp [hslot] at hn⟩

theorem peersLaw_healthCause (hs : PeersLaw s) : PeersLaw (healthCause s) :=
  peersLaw_congr hs (by simp) (by simp) (.inl (healthCause_slot s))

theorem peersLaw_requestRecompute (hs : PeersLaw s) : PeersLaw (requestRecompute s) :=
  peersLaw_congr hs (by simp) (by simp) (.inl (by simp))

theorem peersLaw_startRecompute (hs : PeersLaw s) : PeersLaw (startRecompute s) :=
  peersLaw_congr hs rfl rfl (.inl rfl)

theorem peersLaw_steerFree : SteerFree PeersLaw := fun _ _ _ hs =>
  peersLaw_congr hs rfl rfl (.inl rfl)

theorem peersLaw_ops : KeptByOps PeersLaw where
  toKeptByEvaluation := peersLaw_steerFree.evaluation
  opinions _ _ hs := peersLaw_congr hs rfl rfl (.inl rfl)
  cause _ hs := peersLaw_healthCause hs
  request _ hs := peersLaw_requestRecompute hs
  active _ _ hs := peersLaw_congr hs rfl rfl (.inl rfl)

theorem peersLaw_busFree : BusFree PeersLaw := fun _ _ _ _ _ _ hslot _ hs =>
  peersLaw_congr hs rfl rfl hslot

theorem peersLaw_lines : KeptByLines PeersLaw :=
  peersLaw_ops.lines fun _ _ _ _ hs => peersLaw_congr hs rfl rfl (.inl rfl)

theorem peersLaw_configure {c : Settings} (hs : PeersLaw s) : PeersLaw (configure c s) :=
  peersLaw_ops.configure peersLaw_lines (fun _ => peersLaw_busFree.startBeacon)
    (peersLaw_congr hs rfl rfl (.inl rfl))

theorem peersLaw_warmReset (hs : PeersLaw s) : PeersLaw (warmReset s) :=
  peersLaw_empty hs.own rfl rfl

/-! ## What is stored and what is absorbed -/

/-- A HEALTH that is taken comes from another MV432 (R43, R49). -/
theorem health_of_taken {n : Notice} (htaken : noticeOutcome s n = .taken)
    (hkind : readKind n.header.kind = some .health) :
    isStationId n.header.sender.toNat = true ∧ n.header.sender.toNat ≠ s.ctl.id := by
  obtain ⟨k, hform, _, _, hsender, _, haccept, _⟩ := (noticeOutcome_taken s n).mp htaken
  have hk : k = .health := by
    unfold Header.kindInForm at hform
    rw [hkind] at hform
    dsimp only at hform
    split at hform
    · exact (Option.some.inj hform).symm
    · cases hform
  subst hk
  refine ⟨?_, hsender⟩
  simp only [acceptance] at haccept
  split at haccept
  · next hsource => exact (Bool.and_eq_true_iff.mp hsource).1
  · cases haccept

theorem peersLaw_store {n : Notice} (htaken : noticeOutcome s n = .taken) (wait : Timer)
    (hs : PeersLaw s) :
    PeersLaw { s with bus := { s.bus with slot := some n }, ctl := { s.ctl with configWait := wait } } := by
  obtain ⟨hown, htable, _⟩ := peersLaw_iff.mp hs
  refine peersLaw_iff.mpr ⟨hown, htable, fun m hm => ?_⟩
  obtain rfl : n = m := Option.some.inj hm
  exact health_of_taken (s := s) htaken

/-- The HEALTH that may be absorbed is the one in the slot (R85). -/
theorem slot_of_healthWaiting {n : Notice} (h : healthWaiting s = some n) :
    s.bus.slot = some n ∧ readKind n.header.kind = some .health ∧
      ∀ header, s.bus.activity ≠ .receiving (.taking header true) := by
  unfold healthWaiting at h
  split at h
  · cases h
  · next m hm =>
    split at h
    · next hkind =>
      split at h
      · cases h
      · next hactivity =>
        cases h
        exact ⟨hm, hkind, hactivity⟩
    · cases h

theorem peersLaw_absorb {n : Notice} (hn : healthWaiting s = some n) (hs : PeersLaw s) :
    PeersLaw (absorb n s) := by
  obtain ⟨hown, htable, hstored⟩ := peersLaw_iff.mp hs
  obtain ⟨hslot, hkind, _⟩ := slot_of_healthWaiting hn
  exact peersLaw_iff.mpr
    ⟨hown, tableLaw_storePeer (e := absorbedEntry s n) (hstored n hslot hkind) htable,
      fun m hm => by cases hm⟩

theorem peersLaw_peerStale (id : Nat) (hs : PeersLaw s) : PeersLaw (peerStale id s) := by
  refine peersLaw_congr hs rfl ?_ (.inl rfl)
  rw [peerStale, State.setEntries_entries, List.map_map]
  refine List.map_congr_left fun e _ => ?_
  simp only [Function.comp]
  split <;> rfl

theorem peersLaw_peerRemoved (id : Nat) (hs : PeersLaw s) : PeersLaw (peerRemoved id s) := by
  obtain ⟨hown, htable, hstored⟩ := peersLaw_iff.mp hs
  exact peersLaw_iff.mpr ⟨hown, tableLaw_erasePeer id htable, hstored⟩

theorem peersLaw_writeVerdicts (r : Recompute) (hs : PeersLaw s) : PeersLaw (writeVerdicts r s) := by
  unfold writeVerdicts
  dsimp only
  split
  · exact peersLaw_ops.evaluated (peersLaw_congr hs rfl rfl (.inl rfl))
  · exact peersLaw_congr hs rfl rfl (.inl rfl)

theorem peersLaw_peers : KeptByPeers PeersLaw PeersLaw where
  absorb _ _ _ hn hs := peersLaw_requestRecompute (peersLaw_absorb hn hs)
  beacon _ _ hs := peersLaw_healthCause (peersLaw_congr hs rfl rfl (.inl rfl))
  heldBack s h hs := peersLaw_congr hs (by simp) (by simp) (.inl (by simp))
  stale _ id _ hs := peersLaw_requestRecompute (peersLaw_peerStale id hs)
  remove _ id _ hs := by
    unfold removePeer
    split
    · exact peersLaw_requestRecompute (peersLaw_peerRemoved id hs)
    · exact peersLaw_peerRemoved id hs
  complete _ r _ _ hs :=
    completeRecompute_keeps (peersLaw_writeVerdicts r hs) (fun _ _ hn h => peersLaw_absorb hn h)
      (fun _ h => peersLaw_congr h rfl rfl (.inl rfl)) (fun _ id h => peersLaw_peerStale id h)
      (fun _ id h => peersLaw_peerRemoved id h) (fun _ h => peersLaw_startRecompute h)
  holdExpired _ _ _ _ hs := peersLaw_requestRecompute (peersLaw_congr hs rfl rfl (.inl rfl))

theorem strapId_isStationId (straps : BitVec 5) : isStationId (strapId straps) = true := by
  unfold strapId
  split
  · assumption
  · rfl

theorem peersLaw_coldReset (pins : Pins) : PeersLaw (coldReset pins s) := by
  unfold coldReset
  dsimp only
  split <;> exact peersLaw_empty (strapId_isStationId pins.straps) rfl rfl

theorem peersLaw_enterHold (hs : PeersLaw s) : PeersLaw (enterHold s) := by
  refine peersLaw_congr hs rfl ?_ (.inr rfl)
  exact List.map_map

theorem peersLaw_station : KeptByStation PeersLaw PeersLaw where
  defaults _ _ hs := peersLaw_configure (peersLaw_congr hs rfl rfl (.inl rfl))
  active _ hstate hs := peersLaw_ops.enterActive hstate hs
  reset _ _ hs := peersLaw_warmReset (peersLaw_congr hs rfl rfl (.inl rfl))
  rstn _ _ _ hs := peersLaw_congr hs rfl rfl (.inl rfl)
  resetEnd _ _ hs :=
    peersLaw_ops.endWarmReset peersLaw_lines (fun _ => peersLaw_busFree.startBeacon)
      (fun _ => peersLaw_congr hs rfl rfl (.inl rfl)) (fun _ => peersLaw_congr hs rfl rfl (.inl rfl))
  hold _ _ hs := peersLaw_enterHold hs
  cold _ pins _ _ := peersLaw_coldReset pins

theorem peersLaw_events : KeptByEvents PeersLaw PeersLaw where
  stays _ hs := hs
  lines := peersLaw_lines
  bus := peersLaw_busFree.keptByBus (fun _ _ htaken wait hs => peersLaw_store htaken wait hs)
    (fun _ hs => peersLaw_warmReset hs) (fun _ _ _ hs => peersLaw_configure hs)
    (fun _ hs => peersLaw_congr hs rfl rfl (.inl rfl))
  peers := peersLaw_peers
  steering := peersLaw_steerFree.steering
  station := peersLaw_station

@[simp] theorem Station.tick_id (c : Station) : c.tick.id = c.id := by
  unfold Station.tick
  split <;> rfl

theorem peersLaw_passMicro (hs : PeersLaw s) : PeersLaw (passMicro s) := by
  unfold passMicro
  split
  · exact hs
  · exact peersLaw_congr hs (by simp) rfl (.inl rfl)

end Sys2Proof.Machine

namespace Sys2Proof.Proofs

open Sys2Proof.Machine Sys2Proof.Safety

/-- Settles O12: an entry is put in its place by its id, which the receive slot has from another MV432. -/
theorem peerTableKeepsItsLaw : Obligations.PeerTableKeepsItsLaw := fun _ _ hs ht =>
  step_keeps peersLaw_events (fun _ _ h => peersLaw_congr h rfl rfl (.inl rfl))
    (fun _ h => peersLaw_passMicro h) hs ht

end Sys2Proof.Proofs
end

section
/-! PROOFS. The law of the lanes and the port records (R5, R7, R20 to R27, R36): what each change of one record needs
for its law, and that no port leaves DOWN before configuration. -/

namespace Sys2Proof.Machine

open Safety

variable {s t : State} {r : PortRecord} {n : Nat}

/-! ## One record -/

theorem portLaw_freshPort : PortLaw n freshPort := by
  constructor <;> simp [freshPort, carrying]

theorem portLaw_absentPort : PortLaw n absentPort := by
  constructor <;> simp [absentPort, carrying]

theorem portLaw_fall (r : PortRecord) (cause : Cause) : PortLaw n (r.fall cause) := by
  constructor <;> simp [PortRecord.fall, carrying]

/-- PROBATION_EPOCHS counts for a port in PROBATION alone. -/
theorem portLaw_of_down {m : Nat} (h : PortLaw n r) (hdown : r.state = .down) : PortLaw m r where
  score_le := h.score_le
  score_waiting := h.score_waiting
  count_le := h.count_le
  count_probation := by simp [hdown]
  since_iff := h.since_iff
  revert_iff := h.revert_iff
  ready_carrying := h.ready_carrying

theorem portLaw_probation (h : PortLaw n r) (hdown : r.state = .down) (hn : 1 ≤ n) :
    PortLaw n { r with state := .probation, cleanEpochs := 0 } := by
  have hnot : ¬ carrying r := by simp [carrying, hdown]
  exact
    { score_le := h.score_le
      score_waiting := fun _ => h.score_waiting (.inl hdown)
      count_le := Nat.zero_le _
      count_probation := fun _ => hn
      since_iff := by simpa [carrying, hdown] using h.since_iff
      revert_iff := by simpa [carrying, hdown] using h.revert_iff
      ready_carrying := fun hready => absurd (h.ready_carrying hready) hnot }

theorem portLaw_counted (h : PortLaw n r) (hcount : r.cleanEpochs + 1 < n) (hn : n ≤ 255) :
    PortLaw n { r with cleanEpochs := r.cleanEpochs + 1 } where
  score_le := h.score_le
  score_waiting := h.score_waiting
  count_le := by dsimp only; omega
  count_probation := fun _ => hcount
  since_iff := h.since_iff
  revert_iff := h.revert_iff
  ready_carrying := h.ready_carrying

theorem portLaw_rise (h : PortLaw n r) (hprobation : r.state = .probation) (hn : n ≤ 255)
    (upAt : Time) (revertHold : Nat) : PortLaw n (r.rise upAt revertHold) := by
  have hcount := h.count_probation hprobation
  constructor <;> simp [PortRecord.rise, carrying]
  omega

/-- A carrying port keeps its law under a new score and a change between UP and SUSPECT. -/
theorem portLaw_scored (h : PortLaw n r) (hcarrying : carrying r) {state : PortState}
    (hstate : state = .up ∨ state = .suspect) {score : Nat} (hscore : score ≤ 1023) :
    PortLaw n { r with state := state, score := score } where
  score_le := hscore
  score_waiting := by rcases hstate with rfl | rfl <;> simp
  count_le := h.count_le
  count_probation := by rcases hstate with rfl | rfl <;> simp
  since_iff := h.since_iff.trans ⟨fun _ => hstate, fun _ => hcarrying⟩
  revert_iff := h.revert_iff.trans ⟨fun _ => hstate, fun _ => hcarrying⟩
  ready_carrying _ := hstate

theorem portLaw_holdUp (h : PortLaw n r) {time : Instant} (hdue : r.revertDue time = true) :
    PortLaw n r.holdUp := by
  have hcarrying : carrying r := by
    refine h.revert_iff.mp ?_
    unfold PortRecord.revertDue at hdue
    split at hdue
    · next htimer => simp [htimer]
    · cases hdue
  exact
    { score_le := h.score_le
      score_waiting := h.score_waiting
      count_le := h.count_le
      count_probation := h.count_probation
      since_iff := h.since_iff
      revert_iff := ⟨fun _ => hcarrying, fun _ => rfl⟩
      ready_carrying := fun _ => hcarrying }

theorem portLaw_hold (h : PortLaw n r) : PortLaw n r.hold where
  score_le := h.score_le
  score_waiting := h.score_waiting
  count_le := h.count_le
  count_probation := h.count_probation
  since_iff := h.since_iff
  revert_iff := by
    rw [PortRecord.hold, Option.isSome_map]
    exact h.revert_iff
  ready_carrying := h.ready_carrying

/-! ## The configuration store -/

theorem storeLaw_congr (h : StoreLaw s) (hconfig : t.ctl.config = s.ctl.config)
    (hstate : t.ctl.state = s.ctl.state) : StoreLaw t := by
  unfold StoreLaw steers at *
  rw [hconfig, hstate]
  exact h

theorem storeLaw_of_config (h : t.ctl.config.isSome = true) (hstate : t.ctl.state ≠ .unconfigured) :
    StoreLaw t := ⟨fun hs => absurd hs hstate, fun _ => h⟩

theorem storeLaw_of_not_steers (hstate : t.ctl.state = .hold ∨ t.ctl.state = .resetting) :
    StoreLaw t := by
  constructor <;> rcases hstate with hstate | hstate <;> simp [steers, hstate]

theorem steers_iff : steers s = true ↔ s.ctl.state = .joining ∨ s.ctl.state = .active := by
  unfold steers
  split <;> simp_all

theorem steers_of_joining (h : s.ctl.state = .joining) : steers s = true := steers_iff.mpr (.inl h)

/-! ## The law of the lanes and the port records -/

/-- The law reads the station state and the store, the counts of the lanes, and the port records. -/
theorem portsLaw_congr (h : PortsLaw s) (hstore : StoreLaw t) (hconfig : t.ctl.config = s.ctl.config)
    (hlanes : ∀ p, LaneLaw (t.lanes.get p)) (hports : t.ports = s.ports) : PortsLaw t := by
  have hsettings : settings t = settings s := by simp only [settings, hconfig]
  exact
    { store := hstore
      settings := by unfold SettingsLaw; rw [hsettings]; exact h.settings
      lanes := hlanes
      ports := by rw [hports, hsettings]; exact h.ports
      unconfigured := by rw [hports, hconfig]; exact h.unconfigured }

/-- An operation that leaves the station controller, the lanes and the port records keeps the law. -/
theorem portsLaw_same (h : PortsLaw s) (hctl : t.ctl = s.ctl) (hlanes : t.lanes = s.lanes)
    (hports : t.ports = s.ports) : PortsLaw t :=
  portsLaw_congr h (storeLaw_congr h.store (by rw [hctl]) (by rw [hctl])) (by rw [hctl])
    (by rw [hlanes]; exact h.lanes) hports

theorem portsLaw_setLane (h : PortsLaw s) (p : PortId) {l : Lane} (hl : LaneLaw l) :
    PortsLaw (s.setLane p l) := by
  refine portsLaw_congr h h.store rfl (fun q => ?_) rfl
  rw [State.setLane_lanes, Four.get_set]
  split
  · exact hl
  · exact h.lanes q

theorem portsLaw_setPort (h : PortsLaw s) (p : PortId)
    (hr : PortLaw (settings s).probationEpochs r) (hdown : s.ctl.config = none → r.state = .down) :
    PortsLaw (s.setPort p r) where
  store := h.store
  settings := h.settings
  lanes := h.lanes
  ports q := by
    rw [State.setPort_ports, Four.get_set]
    split
    · exact hr
    · exact h.ports q
  unconfigured hnone q := by
    rw [State.setPort_ports, Four.get_set]
    split
    · exact hdown hnone
    · exact h.unconfigured hnone q

theorem portsLaw_steerFree : SteerFree PortsLaw := fun _ _ _ hs => portsLaw_same hs rfl rfl rfl

theorem portsLaw_ops : KeptByOps PortsLaw where
  toKeptByEvaluation := portsLaw_steerFree.evaluation
  opinions _ _ hs := portsLaw_same hs rfl rfl rfl
  cause _ hs := portsLaw_same hs (by simp) (by simp) (by simp)
  request _ hs := portsLaw_same hs (by simp) (by simp) (by simp)
  active _ hstate hs :=
    portsLaw_congr hs (storeLaw_of_config (hs.store.2 (steers_of_joining hstate)) (by simp)) rfl
      hs.lanes rfl

theorem portsLaw_busFree : BusFree PortsLaw := fun _ _ _ _ _ _ _ _ hs =>
  portsLaw_congr hs (storeLaw_congr hs.store rfl rfl) rfl hs.lanes rfl

/-- Before configuration every port is DOWN. -/
theorem config_ne_none_of_port (h : PortsLaw s) {p : PortId} (hp : (s.ports.get p).state ≠ .down) :
    s.ctl.config ≠ none := fun hnone => hp (h.unconfigured hnone p)

theorem portsLaw_enterDown (hs : PortsLaw s) (p : PortId) (cause : Cause) :
    PortsLaw (enterDown p cause s) :=
  portsLaw_ops.portChanged p
    (portsLaw_setLane (portsLaw_setPort hs p (portLaw_fall _ cause) fun _ => rfl) p (hs.lanes p))

theorem portsLaw_enterProbation (hs : PortsLaw s) {p : PortId} (hready : probationReady s p = true) :
    PortsLaw (enterProbation p s) := by
  simp only [probationReady, Bool.and_eq_true, beq_iff_eq] at hready
  obtain ⟨⟨⟨hsteers, hdown⟩, _⟩, _⟩ := hready
  have hport := portLaw_probation (hs.ports p) hdown hs.settings.1
  have hconfig : s.ctl.config ≠ none := Option.isSome_iff_ne_none.mp (hs.store.2 hsteers)
  exact portsLaw_ops.portChanged p
    (portsLaw_setLane (portsLaw_setPort hs p hport fun hnone => absurd hnone hconfig) p (hs.lanes p))

theorem portsLaw_judgeProbation (hs : PortsLaw s) {p : PortId} (e : Nat)
    (hp : (s.ports.get p).state = .probation) : PortsLaw (judgeProbation p e s) := by
  have hconfig : s.ctl.config ≠ none := config_ne_none_of_port hs (p := p) (by simp [hp])
  simp only [judgeProbation]
  split
  · split
    · next hcount =>
      exact portsLaw_setPort hs p (portLaw_counted (hs.ports p) hcount hs.settings.2)
        fun hnone => absurd hnone hconfig
    · exact portsLaw_ops.portChanged p
        (portsLaw_setPort hs p (portLaw_rise (hs.ports p) hp hs.settings.2 _ _)
          fun hnone => absurd hnone hconfig)
  · exact portsLaw_enterDown hs p .errors

theorem portsLaw_judgeScore (hs : PortsLaw s) {p : PortId} (e : Nat)
    (hp : carrying (s.ports.get p)) : PortsLaw (judgeScore p e s) := by
  have hconfig : s.ctl.config ≠ none :=
    config_ne_none_of_port hs (p := p) (by rcases hp with hp | hp <;> simp [hp])
  have hscore := newScore_le (settings s) e (hs.ports p).score_le
  have hscored {state : PortState} (hstate : state = .up ∨ state = .suspect) :=
    portsLaw_setPort hs p (portLaw_scored (hs.ports p) hp hstate hscore)
      fun hnone => absurd hnone hconfig
  simp only [judgeScore]
  split
  · exact portsLaw_enterDown hs p .errors
  · split
    · exact portsLaw_ops.portChanged p (hscored (.inr rfl))
    · split
      · exact portsLaw_ops.portChanged p (hscored (.inl rfl))
      · exact hscored hp

theorem portsLaw_deliverEpoch (hs : PortsLaw s) (p : PortId) (e : Nat) :
    PortsLaw (deliverEpoch p e s) := by
  unfold deliverEpoch
  split
  · exact hs
  · exact hs
  · next hp => exact portsLaw_judgeProbation hs e hp
  · next hp => exact portsLaw_judgeScore hs e (.inl hp)
  · next hp => exact portsLaw_judgeScore hs e (.inr hp)

theorem portsLaw_lines : KeptByLines PortsLaw where
  count s p hs := portsLaw_setLane hs p ⟨min_le_left _ _, (hs.lanes p).2⟩
  lane s p l herrors hpeak hs :=
    portsLaw_setLane hs p ⟨herrors ▸ (hs.lanes p).1, hpeak ▸ (hs.lanes p).2⟩
  down s p cause _ _ hs := portsLaw_enterDown hs p cause
  probation s p hready hs := portsLaw_enterProbation hs hready
  close s e hs := by
    refine portsLaw_congr hs hs.store rfl (fun p => ?_) rfl
    rw [Four.get_map]
    split
    · exact ⟨Nat.zero_le _, max_le (hs.lanes p).2 (hs.lanes p).1⟩
    · exact hs.lanes p
  deliver s p e hs := portsLaw_deliverEpoch hs p e
  revert s p _ hdue hs :=
    portsLaw_ops.evaluated
      (portsLaw_setPort hs p (portLaw_holdUp (hs.ports p) hdue) fun hnone => hs.unconfigured hnone p)

/-! ## The resets and configuration -/

/-- Settings that an accepted CONFIG or the defaults give (R148). -/
def EpochsInRange (c : Settings) : Prop := 1 ≤ c.probationEpochs ∧ c.probationEpochs ≤ 255

theorem clamp_bounds {lo hi : Nat} (h : lo ≤ hi) (v : Nat) : lo ≤ clamp lo hi v ∧ clamp lo hi v ≤ hi := by
  unfold clamp
  split
  · omega
  · split <;> omega

theorem epochsInRange_readConfig (body : List Byte) : EpochsInRange (readConfig body) :=
  clamp_bounds (by omega) (byteAt body 11)

theorem epochsInRange_defaultSettings : EpochsInRange defaultSettings := by
  constructor <;> decide

theorem portsLaw_applySettings {c : Settings} (hc : EpochsInRange c)
    (hstate : s.ctl.state = .unconfigured) (hs : PortsLaw s) : PortsLaw (joined (applySettings c s)) where
  store := storeLaw_of_config rfl (by simp [joined])
  settings := hc
  lanes p := by
    simp only [joined, applySettings, State.setStation_lanes, Four.get_build, Lane.configured]
    split
    · constructor <;> simp
    · exact hs.lanes p
  ports p := by
    have hdown := hs.unconfigured (hs.store.1 hstate) p
    simp only [joined, applySettings, State.setStation_ports, Four.get_build, PortRecord.configured]
    split
    · exact portLaw_absentPort
    · exact portLaw_of_down (hs.ports p) hdown
  unconfigured hnone := by cases hnone

theorem portsLaw_configure {c : Settings} (hc : EpochsInRange c)
    (hstate : s.ctl.state = .unconfigured) (hs : PortsLaw s) : PortsLaw (configure c s) :=
  portsLaw_ops.configure portsLaw_lines (fun _ => portsLaw_busFree.startBeacon)
    (portsLaw_applySettings hc hstate hs)

theorem portsLaw_warmReset (hs : PortsLaw s) : PortsLaw (warmReset s) where
  store := storeLaw_of_not_steers (.inr rfl)
  settings := hs.settings
  lanes p := by constructor <;> simp [warmReset, Lane.warmReset]
  ports p := by
    simp only [warmReset, Four.get_map, PortRecord.warmReset]
    split
    · exact portLaw_absentPort
    · exact portLaw_freshPort
  unconfigured hnone p := by
    simp [warmReset, PortRecord.warmReset, hs.unconfigured hnone p, freshPort]

theorem portsLaw_coldState (pins : Pins) (q : List Instr) : PortsLaw (coldState pins q) where
  store := ⟨fun _ => rfl, by simp [steers, coldState, coldStation]⟩
  settings := epochsInRange_defaultSettings
  lanes p := by constructor <;> simp [coldState, coldLane]
  ports p := by
    rw [coldState, Four.get_all]
    exact portLaw_freshPort
  unconfigured _ p := by simp [coldState, freshPort]

theorem portsLaw_enterHold (hs : PortsLaw s) : PortsLaw (enterHold s) where
  store := storeLaw_of_not_steers (.inl rfl)
  settings := hs.settings
  lanes p := by
    rw [enterHold, Four.get_map]
    exact hs.lanes p
  ports p := by
    rw [enterHold, Four.get_map]
    exact portLaw_hold (hs.ports p)
  unconfigured hnone p := by
    rw [enterHold, Four.get_map]
    exact hs.unconfigured hnone p

theorem portsLaw_setStation {c : Station} (hs : PortsLaw s) (hconfig : c.config = s.ctl.config)
    (hstate : c.state = s.ctl.state) : PortsLaw (s.setStation c) :=
  portsLaw_congr hs (storeLaw_congr hs.store hconfig hstate) hconfig hs.lanes rfl

theorem portsLaw_station : KeptByStation PortsLaw PortsLaw where
  defaults _ hstate hs :=
    portsLaw_configure epochsInRange_defaultSettings hstate (portsLaw_setStation hs rfl rfl)
  active _ hstate hs := portsLaw_ops.enterActive hstate hs
  reset _ _ hs := portsLaw_warmReset (portsLaw_setStation hs rfl rfl)
  rstn _ _ _ hs := portsLaw_setStation hs rfl rfl
  resetEnd _ _ hs :=
    portsLaw_ops.endWarmReset portsLaw_lines (fun _ => portsLaw_busFree.startBeacon)
      (fun hconfig => portsLaw_congr hs (storeLaw_of_config hconfig (by simp [joined])) rfl hs.lanes rfl)
      (fun hconfig => portsLaw_congr hs ⟨fun _ => hconfig, by simp [steers, unjoined]⟩ rfl hs.lanes rfl)
  hold _ _ hs := portsLaw_enterHold hs
  cold s pins _ _ := by
    unfold coldReset
    dsimp only
    split
    · exact portsLaw_coldState pins s.pending
    · exact portsLaw_warmReset (portsLaw_coldState pins s.pending)

theorem portsLaw_events : KeptByEvents PortsLaw PortsLaw where
  stays _ hs := hs
  lines := portsLaw_lines
  bus := portsLaw_busFree.keptByBus
    (fun _ _ _ _ hs => portsLaw_congr hs (storeLaw_congr hs.store rfl rfl) rfl hs.lanes rfl)
    (fun _ hs => portsLaw_warmReset hs)
    (fun _ body hstate hs => portsLaw_configure (epochsInRange_readConfig body) hstate hs)
    (fun _ hs => portsLaw_congr hs hs.store rfl
      (fun p => by rw [Four.get_map]; exact ⟨(hs.lanes p).1, Nat.zero_le _⟩) rfl)
  peers := portsLaw_ops.peers portsLaw_busFree fun _ _ _ hs => portsLaw_same hs rfl rfl rfl
  steering := portsLaw_steerFree.steering
  station := portsLaw_station

@[simp] theorem Station.tick_config (c : Station) : c.tick.config = c.config := by
  unfold Station.tick
  split <;> rfl

theorem portsLaw_passMicro (hs : PortsLaw s) : PortsLaw (passMicro s) := by
  unfold passMicro
  split
  · exact hs
  · exact portsLaw_congr hs (storeLaw_congr hs.store (by simp) (by simp)) (by simp) hs.lanes rfl

end Sys2Proof.Machine

namespace Sys2Proof.Proofs

open Sys2Proof.Machine Sys2Proof.Safety

/-- Settles O8: each change of a record fits its law, and a port leaves DOWN in JOINING and ACTIVE alone. -/
theorem portRecordsKeepTheirLaw : Obligations.PortRecordsKeepTheirLaw := fun _ _ hs ht =>
  step_keeps portsLaw_events (fun _ _ h => portsLaw_same h rfl rfl rfl)
    (fun _ h => portsLaw_passMicro h) hs ht

end Sys2Proof.Proofs
end

section
/-! PROOFS. The order of the move queue (R128, R129). An order of its entries is kept where `insertEntry` puts an entry in
its place by it and where it reads rank, queued-at and class number alone: the order of rank is one, and the whole order
of R129 is another, for entries that were queued less than 2^31 ms ago. -/

namespace Sys2Proof.Machine

open Safety

/-! ## An order of entries that insertions follow -/

/-- An order that `QueueEntry.precedes` decides between entries of different classes whose queued-at is `ok`. -/
structure InsertOrder (ok : Time → Prop) (R : QueueEntry → QueueEntry → Prop) : Prop where
  trans : ∀ a b c, ok a.queuedAt → ok b.queuedAt → ok c.queuedAt → R a b → R b c → R a c
  before : ∀ a b, a.precedes b = true → R a b
  after : ∀ a b, ok a.queuedAt → ok b.queuedAt → a.cls ≠ b.cls → a.precedes b ≠ true → R b a
  key : ∀ a b a' b', a'.kind.rank = a.kind.rank → b'.kind.rank = b.kind.rank →
    a'.queuedAt = a.queuedAt → b'.queuedAt = b.queuedAt → a'.cls = a.cls → b'.cls = b.cls →
    R a b → R a' b'

/-- A queue of one entry to a class, each with a queued-at that is `ok`, in the order `R`. -/
structure QueueInOrder (ok : Time → Prop) (R : QueueEntry → QueueEntry → Prop)
    (q : List QueueEntry) : Prop where
  single : (q.map QueueEntry.cls).Nodup
  queued : ∀ e ∈ q, ok e.queuedAt
  ordered : q.Pairwise R

variable {ok : Time → Prop} {R : QueueEntry → QueueEntry → Prop} {q : List QueueEntry}

theorem queueInOrder_nil : QueueInOrder ok R [] := ⟨List.nodup_nil, by simp, .nil⟩

theorem queueInOrder_removeEntry (c : ClassId) (h : QueueInOrder ok R q) :
    QueueInOrder ok R (removeEntry c q) where
  single := h.single.sublist (List.filter_sublist.map _)
  queued e he := h.queued e ((mem_removeEntry c e q).mp he).1
  ordered := h.ordered.filter _

theorem insertEntry_ordered (hR : InsertOrder ok R) {e : QueueEntry} (he : ok e.queuedAt)
    (hq : ∀ x ∈ q, ok x.queuedAt) (hcls : ∀ x ∈ q, x.cls ≠ e.cls) (h : q.Pairwise R) :
    (insertEntry e q).Pairwise R := by
  induction q with
  | nil => simp [insertEntry]
  | cons x xs ih =>
    obtain ⟨hx, hxs⟩ := List.pairwise_cons.mp h
    have hok : ok x.queuedAt := hq x (List.mem_cons_self ..)
    unfold insertEntry
    split
    · next hprecedes =>
      have hex := hR.before e x hprecedes
      refine List.pairwise_cons.mpr ⟨fun y hy => ?_, h⟩
      rcases List.mem_cons.mp hy with rfl | hy
      · exact hex
      · exact hR.trans e x y he hok (hq y (List.mem_cons_of_mem x hy)) hex (hx y hy)
    · next hprecedes =>
      have hxe := hR.after e x he hok (hcls x (List.mem_cons_self ..)).symm hprecedes
      refine List.pairwise_cons.mpr ⟨fun y hy => ?_, ih (fun y hy => hq y (.tail x hy))
        (fun y hy => hcls y (.tail x hy)) hxs⟩
      rcases (mem_insertEntry e y xs).mp hy with rfl | hy
      · exact hxe
      · exact hx y hy

theorem queueInOrder_insertEntry (hR : InsertOrder ok R) {e : QueueEntry} (he : ok e.queuedAt)
    (hcls : ∀ x ∈ q, x.cls ≠ e.cls) (h : QueueInOrder ok R q) :
    QueueInOrder ok R (insertEntry e q) where
  single := insertEntry_single h.single hcls
  queued x hx := by
    rcases (mem_insertEntry e x q).mp hx with rfl | hx
    · exact he
    · exact h.queued x hx
  ordered := insertEntry_ordered hR he h.queued hcls h.ordered

/-- The entry of a class is the only one with its class number. -/
theorem eq_of_single (h : (q.map QueueEntry.cls).Nodup) {x y : QueueEntry} (hx : x ∈ q) (hy : y ∈ q)
    (hcls : x.cls = y.cls) : x = y := List.inj_on_of_nodup_map h hx hy hcls

/-- An entry that is changed where it stands and keeps rank, queued-at and class keeps the order. -/
theorem queueInOrder_replaceEntry (hR : InsertOrder ok R) {e e' : QueueEntry} (he : e ∈ q)
    (hrank : e'.kind.rank = e.kind.rank) (hqueued : e'.queuedAt = e.queuedAt) (hcls : e'.cls = e.cls)
    (h : QueueInOrder ok R q) : QueueInOrder ok R (replaceEntry e' q) := by
  have key : ∀ x ∈ q, (if x.cls = e'.cls then e' else x).kind.rank = x.kind.rank ∧
      (if x.cls = e'.cls then e' else x).queuedAt = x.queuedAt ∧
      (if x.cls = e'.cls then e' else x).cls = x.cls := by
    intro x hx
    split
    · next hsame =>
      obtain rfl := eq_of_single h.single hx he (hsame.trans hcls)
      exact ⟨hrank, hqueued, hcls⟩
    · exact ⟨rfl, rfl, rfl⟩
  refine ⟨by rw [replaceEntry_cls]; exact h.single, fun x hx => ?_, ?_⟩
  · obtain ⟨y, hy, rfl⟩ := List.mem_map.mp hx
    rw [(key y hy).2.1]
    exact h.queued y hy
  · refine List.pairwise_map.mpr (h.ordered.imp_of_mem fun {a b} ha hb hab => ?_)
    obtain ⟨ranka, queueda, clsa⟩ := key a ha
    obtain ⟨rankb, queuedb, clsb⟩ := key b hb
    exact hR.key a b _ _ ranka rankb queueda queuedb clsa clsb hab

theorem queueInOrder_wantedQueue (hR : InsertOrder ok R) {s : State} (hnow : ok s.ctl.time)
    (c : ClassId) (k : MoveKind) (b : PortId) (h : QueueInOrder ok R s.mux.queue) :
    QueueInOrder ok R (wantedQueue s c k b) := by
  unfold wantedQueue
  split
  · next hnone =>
    exact queueInOrder_insertEntry hR (e := newEntry s c k b) hnow ((findEntry_none _ _).mp hnone) h
  · next e hfound =>
    obtain ⟨he, hcls⟩ := findEntry_some hfound
    split
    · exact queueInOrder_replaceEntry hR he rfl rfl rfl h
    · split
      · next hrank => exact queueInOrder_replaceEntry hR he hrank.symm rfl rfl h
      · refine queueInOrder_insertEntry hR (h.queued e he) (fun x hx => ?_)
          (queueInOrder_removeEntry c h)
        rw [show (rekindEntry s e k b).cls = c from hcls]
        exact ((mem_removeEntry c x _).mp hx).2

/-! ## The events -/

/-- What an evaluation makes of the move queue: nothing, the queue without the entry of the class, or the queue after a
wanted move. -/
theorem evaluate_queue (s : State) (c : ClassId) :
    (evaluate c s).mux.queue = s.mux.queue ∨ (evaluate c s).mux.queue = removeEntry c s.mux.queue ∨
      ∃ k b, (evaluate c s).mux.queue = wantedQueue s c k b := by
  unfold evaluate
  split
  · split
    · unfold actInActive
      split
      · exact .inr (.inl rfl)
      · exact .inr (.inr ⟨_, _, rfl⟩)
      · exact .inr (.inl rfl)
      all_goals exact .inr (.inr ⟨_, _, rfl⟩)
    · unfold actInJoining
      split
      · exact .inr (.inl rfl)
      · exact .inr (.inr ⟨_, _, rfl⟩)
      · exact .inr (.inl rfl)
      all_goals exact .inl rfl
  · exact .inl rfl

theorem issueTest_queue (s : State) :
    (issueTest s).mux.queue = s.mux.queue ∨ ∃ c, (issueTest s).mux.queue = removeEntry c s.mux.queue := by
  unfold issueTest
  split
  · exact .inr ⟨_, rfl⟩
  · exact .inl rfl

/-- The queue of the station is in order, by a condition on queued-at that station time gives. -/
def InOrder (ok : Time → Time → Prop) (R : QueueEntry → QueueEntry → Prop) (s : State) : Prop :=
  QueueInOrder (ok s.ctl.time) R s.mux.queue

section

variable {ok : Time → Time → Prop} {R : QueueEntry → QueueEntry → Prop} {s t : State}

theorem inOrder_congr (h : InOrder ok R s) (htime : t.ctl.time = s.ctl.time)
    (hqueue : t.mux.queue = s.mux.queue) : InOrder ok R t := by
  unfold InOrder at *
  rw [htime, hqueue]
  exact h

theorem inOrder_empty (h : t.mux.queue = []) : InOrder ok R t := by
  unfold InOrder
  rw [h]
  exact queueInOrder_nil

theorem inOrder_removed {c : ClassId} (h : InOrder ok R s) (htime : t.ctl.time = s.ctl.time)
    (hqueue : t.mux.queue = removeEntry c s.mux.queue) : InOrder ok R t := by
  unfold InOrder at *
  rw [htime, hqueue]
  exact queueInOrder_removeEntry c h

variable (hR : ∀ now, InsertOrder (ok now) R) (hnow : ∀ now, ok now now)

theorem inOrder_issueTest (h : InOrder ok R s) : InOrder ok R (issueTest s) := by
  rcases issueTest_queue s with hq | ⟨c, hq⟩
  · exact inOrder_congr h (by simp) hq
  · exact inOrder_removed h (by simp) hq

theorem inOrder_busFree : BusFree (InOrder ok R) := fun _ _ _ _ _ _ _ _ hs => hs

include hR hnow

theorem inOrder_evaluate (c : ClassId) (h : InOrder ok R s) : InOrder ok R (evaluate c s) := by
  rcases evaluate_queue s c with hq | hq | ⟨k, b, hq⟩
  · exact inOrder_congr h (by simp) hq
  · exact inOrder_removed h (by simp) hq
  · unfold InOrder at *
    rw [evaluate_ctl, hq]
    exact queueInOrder_wantedQueue (hR _) (hnow _) c k b h

theorem inOrder_ops : KeptByOps (InOrder ok R) where
  evaluate _ c hs := inOrder_evaluate hR hnow c hs
  issueTest _ hs := inOrder_issueTest hs
  cancelTrigger s p hs := inOrder_congr hs (by simp) (cancelTrigger_queue s p)
  opinions _ _ hs := hs
  cause _ hs := inOrder_congr hs (by simp) (by simp)
  request _ hs := inOrder_congr hs (by simp) (by simp)
  active _ _ hs := hs

theorem inOrder_lines : KeptByLines (InOrder ok R) :=
  (inOrder_ops hR hnow).lines fun _ _ _ _ hs => hs

theorem inOrder_configure {c : Settings} (hs : InOrder ok R s) : InOrder ok R (configure c s) :=
  (inOrder_ops hR hnow).configure (inOrder_lines hR hnow)
    (fun _ => inOrder_busFree.startBeacon) hs

theorem inOrder_finishMove (c : ClassId) (r : ClassRecord) (hs : InOrder ok R s) :
    InOrder ok R (finishMove c r s) := inOrder_issueTest (inOrder_evaluate hR hnow c hs)

theorem inOrder_steering : KeptBySteering (InOrder ok R) (InOrder ok R) where
  unbar _ c _ _ hs := inOrder_issueTest (inOrder_evaluate hR hnow c hs)
  issue _ hs := inOrder_issueTest hs
  arrive _ _ _ _ hs := inOrder_finishMove hR hnow _ _ hs
  refuse _ _ _ _ _ hs := inOrder_finishMove hR hnow _ _ hs
  remain _ _ _ _ hs := inOrder_finishMove hR hnow _ _ hs
  answerLimit _ _ _ _ hs := by
    unfold answerLimitPassed
    split <;> exact hs
  cancelLimit _ _ hs := hs
  mrdy _ _ hs := hs
  offline s _ hs := by
    have hleft : InOrder ok R (abandonMove (recordMrdy false s)) := by
      unfold abandonMove
      split
      · exact inOrder_evaluate hR hnow _ hs
      · exact hs
    unfold goOffline
    dsimp only
    split
    · exact (inOrder_ops hR hnow).evaluateAll hleft
    · exact hleft
  online s _ _ _ :=
    have hitems : InOrder ok R (replaceAll (recordMrdy true s)) := inOrder_empty rfl
    (inOrder_ops hR hnow).evaluated hitems

theorem inOrder_station : KeptByStation (InOrder ok R) (InOrder ok R) where
  defaults _ _ hs := inOrder_configure hR hnow hs
  active _ hstate hs := (inOrder_ops hR hnow).enterActive hstate hs
  reset _ _ _ := inOrder_empty rfl
  rstn _ _ _ hs := hs
  resetEnd _ _ hs :=
    (inOrder_ops hR hnow).endWarmReset (inOrder_lines hR hnow)
      (fun _ => inOrder_busFree.startBeacon) (fun _ => hs) (fun _ => hs)
  hold _ _ hs := hs
  cold _ _ _ _ := by
    refine inOrder_empty ?_
    unfold coldReset
    dsimp only
    split <;> rfl

theorem inOrder_events : KeptByEvents (InOrder ok R) (InOrder ok R) where
  stays _ hs := hs
  lines := inOrder_lines hR hnow
  bus := inOrder_busFree.keptByBus (fun _ _ _ _ hs => hs) (fun _ _ => inOrder_empty rfl)
    (fun _ _ _ hs => inOrder_configure hR hnow hs) (fun _ hs => hs)
  peers := (inOrder_ops hR hnow).peers inOrder_busFree fun _ _ _ hs => hs
  steering := inOrder_steering hR hnow
  station := inOrder_station hR hnow

end

/-! ## The order of rank -/

theorem precedes_iff_comesBefore (a b : QueueEntry) : a.precedes b = true ↔ comesBefore a b := by
  simp [QueueEntry.precedes, earlier, reached, comesBefore]

/-- Every PLACE and EVACUATE ahead of every SHED, and every SHED ahead of every REVERT. -/
def rankLe (a b : QueueEntry) : Prop := a.kind.rank ≤ b.kind.rank

theorem rankLe_insertOrder : InsertOrder (fun _ => True) rankLe where
  trans _ _ _ _ _ _ := le_trans
  before a b h := by
    rcases (precedes_iff_comesBefore a b).mp h with hlt | ⟨heq, _⟩
    · exact hlt.le
    · exact heq.le
  after a b _ _ _ h := by
    have hlt : ¬ a.kind.rank < b.kind.rank := fun hlt =>
      h ((precedes_iff_comesBefore a b).mpr (.inl hlt))
    exact not_lt.mp hlt
  key a b a' b' ha hb _ _ _ _ h := by
    unfold rankLe at *
    rwa [ha, hb]

theorem rankLe_pairwise {q : List QueueEntry} :
    (q.map fun e => e.kind.rank).Pairwise (· ≤ ·) ↔ q.Pairwise rankLe := List.pairwise_map

theorem rankLaw_iff {s : State} : RankLaw s ↔ InOrder (fun _ _ => True) rankLe s :=
  ⟨fun ⟨hsingle, hordered⟩ => ⟨hsingle, fun _ _ => trivial, rankLe_pairwise.mp hordered⟩,
    fun ⟨hsingle, _, hordered⟩ => ⟨hsingle, rankLe_pairwise.mpr hordered⟩⟩

/-! ## The whole order, where every entry was queued less than 2^31 ms ago -/

/-- The station time was read at most half of its range ago. -/
def Recent (now time : Time) : Prop := (now - time).toNat < 2 ^ 31

theorem recent_self (now : Time) : Recent now now := by simp [Recent]

/-- Among recent entries the order is that of rank, then the greater age, then the lower class number. -/
theorem comesBefore_iff_age {now : Time} {a b : QueueEntry} (ha : Recent now a.queuedAt)
    (hb : Recent now b.queuedAt) :
    comesBefore a b ↔ a.kind.rank < b.kind.rank ∨ (a.kind.rank = b.kind.rank ∧
      ((now - b.queuedAt).toNat < (now - a.queuedAt).toNat ∨
        ((now - a.queuedAt).toNat = (now - b.queuedAt).toNat ∧ a.cls.val < b.cls.val))) := by
  unfold Recent at ha hb
  have hearlier : (a.queuedAt ≠ b.queuedAt ∧ (b.queuedAt - a.queuedAt).toNat < 2 ^ 31) ↔
      (now - b.queuedAt).toNat < (now - a.queuedAt).toNat := by bv_omega
  have hsame : a.queuedAt = b.queuedAt ↔ (now - a.queuedAt).toNat = (now - b.queuedAt).toNat := by
    bv_omega
  rw [comesBefore, hearlier, hsame]

theorem comesBefore_insertOrder (now : Time) : InsertOrder (Recent now) comesBefore where
  trans a b c ha hb hc hab hbc := by
    rw [comesBefore_iff_age ha hb] at hab
    rw [comesBefore_iff_age hb hc] at hbc
    rw [comesBefore_iff_age ha hc]
    omega
  before a b h := (precedes_iff_comesBefore a b).mp h
  after a b ha hb hcls h := by
    rw [ne_eq, precedes_iff_comesBefore, comesBefore_iff_age ha hb] at h
    have hval : a.cls.val ≠ b.cls.val := Fin.val_ne_of_ne hcls
    rw [comesBefore_iff_age hb ha]
    omega
  key a b a' b' hrank hrank' hqueued hqueued' hcls hcls' h := by
    unfold comesBefore at *
    rwa [hrank, hrank', hqueued, hqueued', hcls, hcls']

/-! ## The step -/

theorem passMicro_moveQueue {s : State} : (passMicro s).mux.queue = s.mux.queue := by
  unfold passMicro
  split <;> rfl

/-- A step with no command in the queue leaves the move queue. -/
theorem idle_moveQueue (s : State) : (idle s).mux.queue = s.mux.queue := by
  unfold idle
  split
  · rfl
  · exact passMicro_moveQueue

/-- A step keeps a predicate that every command keeps and that reads the move queue beside what time leaves alone. -/
theorem inOrder_step {ok : Time → Time → Prop} {R : QueueEntry → QueueEntry → Prop} {s t : State}
    (hR : ∀ now, InsertOrder (ok now) R) (hnow : ∀ now, ok now now) (hs : InOrder ok R s)
    (ht : step s = .next t) : (t.mux.queue.map QueueEntry.cls).Nodup ∧ t.mux.queue.Pairwise R := by
  unfold step at ht
  split at ht
  · next c rest _ =>
    have hafter := ((inOrder_events hR hnow).exec (s := { s with pending := rest }) hs c).of_next ht
    exact ⟨hafter.single, hafter.ordered⟩
  · cases ht
    rw [idle_moveQueue]
    exact ⟨hs.single, hs.ordered⟩

end Sys2Proof.Machine

namespace Sys2Proof.Proofs

open Sys2Proof.Machine Sys2Proof.Safety

/-- Settles O10: an entry enters the queue by `insertEntry` alone, and an entry that is changed where it stands keeps
rank, queued-at and class. -/
theorem moveQueueStaysInRankOrder : Obligations.MoveQueueStaysInRankOrder := by
  intro s t hlaw ht
  constructor
  · obtain ⟨hsingle, hordered⟩ :=
      inOrder_step (fun _ => rankLe_insertOrder) (fun _ => trivial) (rankLaw_iff.mp hlaw) ht
    exact ⟨hsingle, rankLe_pairwise.mpr hordered⟩
  · intro hrecent hordered
    exact (inOrder_step comesBefore_insertOrder recent_self ⟨hlaw.single, hrecent, hordered⟩ ht).2

end Sys2Proof.Proofs
end

section
/-! PROOFS. The step and the outputs: the front command, the clock on an empty queue, the output lines, and the laws at
reset. -/

namespace Sys2Proof.Machine

open Safety

/-! ## Timers and instants -/

/-- A running timer is due exactly when its instant has come. -/
theorem isDue_running {s : State} {due : Instant} :
    (Timer.running due).isDue (clock s) = true ↔ RanOut s due := ranOut_iff (clock s) due

theorem isDue_of_not_ranOut {s : State} {due : Instant} (h : ¬ RanOut s due) :
    (Timer.running due).isDue (clock s) = false := by
  rw [← Bool.not_eq_true, isDue_running]
  exact h

theorem isDue_of_not_running {t : Timer} {now : Instant} (h : t.isRunning = false) :
    t.isDue now = false := by
  cases t with
  | running due => cases h
  | stopped | expired => rfl

theorem startTimer_clock (s : State) (ms : Nat) : startTimer (clock s) ms = .running (afterMs s ms) :=
  rfl

theorem startCounted_now (s : State) (ms : Nat) : startCounted (now s) ms = .running (countedMs s ms) :=
  rfl

/-! ## The clock -/

theorem step_of_pending {s : State} {c : Instr} {rest : List Instr} (h : s.pending = c :: rest) :
    step s = exec c { s with pending := rest } := by
  simp [step, h]

theorem step_of_empty {s : State} (h : s.pending = []) : step s = .next (idle s) := by
  simp [step, h]

theorem idle_of_due {s : State} {c : Instr} {rest : List Instr} (h : dueCommands s = c :: rest) :
    idle s = { s with pending := [c] } := by
  simp [idle, h]

theorem idle_of_none {s : State} (h : dueCommands s = []) : idle s = passMicro s := by
  simp [idle, h]

theorem dueCommands_of_hold {s : State} (h : s.ctl.state = .hold) : dueCommands s = [] := by
  simp [dueCommands, h]

theorem passMicro_of_hold {s : State} (h : s.ctl.state = .hold) : passMicro s = s := if_pos h

theorem passMicro_of_not_hold {s : State} (h : s.ctl.state ≠ .hold) :
    passMicro s =
      { s with ctl := s.ctl.tick, bus := s.bus.tick, verdicts := s.verdicts.tick, mux := s.mux.tick } :=
  if_neg h

/-- A microsecond is one in the count of 2^32 milliseconds. -/
theorem Station.tick_total (c : Station) (h : c.micros < 1000) :
    c.tick.micros < 1000 ∧
      c.tick.time.toNat * 1000 + c.tick.micros =
        (c.time.toNat * 1000 + c.micros + 1) % (2 ^ 32 * 1000) := by
  have htime := c.time.isLt
  by_cases hlast : c.micros + 1 < 1000
  · have hmicros : c.tick.micros = c.micros + 1 := by simp [Station.tick, microsPerMs, hlast]
    have htick : c.tick.time = c.time := by simp [Station.tick, microsPerMs, hlast]
    rw [hmicros, htick]
    omega
  · have hmicros : c.tick.micros = 0 := by simp [Station.tick, microsPerMs, hlast]
    have htick : c.tick.time = c.time + 1#32 := by simp [Station.tick, microsPerMs, hlast]
    rw [hmicros, htick, BitVec.toNat_add]
    have hone : (1#32).toNat = 1 := rfl
    omega

theorem Station.tick_kept (c : Station) :
    c.tick.id = c.id ∧ c.tick.state = c.state ∧ c.tick.config = c.config := by
  unfold Station.tick
  dsimp only
  split <;> exact ⟨rfl, rfl, rfl⟩

/-- The bus-free timer runs while the station is IDLE and both lines are high. -/
theorem Bus.tick_eq (b : Bus) :
    b.tick =
      { b with
        quiet := if b.activity = .idle ∧ b.wires.clockRuns = false ∧ b.wires.dataLow = false then
            min 50 (b.quiet + 1)
          else b.quiet
        sinceEvent := min 50 (b.sinceEvent + 1)
        hold := b.hold.map fun t => t + 1 } := by
  simp only [Bus.tick, Wires.high, busFreeMicros, Bool.and_eq_true, beq_iff_eq, Bool.not_eq_true']

/-! ## The output pins -/

namespace SteerPins

variable {p : SteerPins}

/-- MREQ rises as the set-up ends, and the drives that wait go on waiting. -/
theorem next_count_of_setUp (hlaw : StrobeLaw p) (h : p.setUp = 1) :
    p.count.next = { p with setUp := 0, mreq := 1 } := by
  have halone := hlaw.alone
  have hmreq : p.mreq = 0 := by omega
  have hmcan : p.mcan = 0 := by omega
  have hcount : p.count = { p with setUp := 0, mreq := 1 } := by
    simp [SteerPins.count, h, hmcan, strobeMicros]
  rcases next_cases p.count with ⟨_, _, _, hrest, _⟩ | ⟨_, hnext⟩
  · simp [resting_iff, hcount] at hrest
  · rw [hnext, hcount]

/-- A strobe falls, and no set-up begins without a drive. -/
theorem count_of_strobe (hlaw : StrobeLaw p) (h : p.setUp = 0) :
    p.count = { p with mreq := 0, mcan := 0 } := by
  have halone := hlaw.alone
  have hmreq : p.mreq - 1 = 0 := by omega
  have hmcan : p.mcan - 1 = 0 := by omega
  simp [SteerPins.count, h, hmreq, hmcan]

theorem next_count_of_no_drive (hlaw : StrobeLaw p) (h : p.setUp = 0) (hw : p.waiting = []) :
    p.count.next = { p with mreq := 0, mcan := 0 } := by
  simp [SteerPins.next, count_of_strobe hlaw h, hw]

/-- The drive that waits longest begins as the strobe falls. -/
theorem next_count_of_drive (hlaw : StrobeLaw p) (h : p.setUp = 0) {d : Drive} {rest : List Drive}
    (hw : p.waiting = d :: rest) :
    p.count.next = SteerPins.start d { p with mreq := 0, mcan := 0, waiting := rest } := by
  simp [SteerPins.next, count_of_strobe hlaw h, hw, resting_iff, h]

end SteerPins

/-! ## The output lines -/

theorem any_classes_stranded {s : State} :
    (allClasses.any fun c => (s.classes.get c).inUse && (s.classes.get c).status == .stranded) = true ↔
      ∃ c, (s.classes.get c).prefs ≠ [] ∧ (s.classes.get c).status = .stranded := by
  simp [ClassRecord.inUse]

theorem alertLow_iff {s : State} :
    alertLow s = true ↔ s.ctl.state ≠ .hold ∧
      ((∃ c, (s.classes.get c).prefs ≠ [] ∧ (s.classes.get c).status = .stranded) ∨
        s.ctl.silenced = true ∨ s.mux.port = .stalled ∨
        (s.mux.port = .offline ∧ s.ctl.state = .active)) := by
  simp only [alertLow, Bool.and_eq_true, Bool.or_eq_true, any_classes_stranded, bne_iff_ne, beq_iff_eq,
    or_assoc]

end Sys2Proof.Machine

namespace Sys2Proof.Proofs

open Sys2Proof.Machine Sys2Proof.Safety

/-- Settles O1: the step reads the front of the queue. -/
theorem stepRunsFrontCommand : Obligations.StepRunsFrontCommand := fun _ _ _ h => step_of_pending h

/-- Settles O2: an empty queue runs `idle`, and a microsecond is that of the station controller, the bus controller and
the output pins. -/
theorem emptyQueueRunsClock : Obligations.EmptyQueueRunsClock := by
  intro s hempty
  rw [step_of_empty hempty]
  refine ⟨fun c rest hdue => by rw [idle_of_due hdue], fun hhold => ?_, fun hnone hrun => ?_⟩
  · rw [idle_of_none (dueCommands_of_hold hhold), passMicro_of_hold hhold]
  · rw [idle_of_none hnone, passMicro_of_not_hold hrun]
    obtain ⟨hid, hstate, hconfig⟩ := s.ctl.tick_kept
    refine ⟨_, rfl, s.ctl.tick_total, hid, hstate, hconfig, rfl, rfl, rfl, rfl, rfl, rfl, rfl,
      VerdictUnit.tick_switches _, rfl, rfl, rfl, ?pins, s.bus.tick_eq, hempty⟩
    rintro p rfl hlaw
    refine ⟨SteerPins.next_count_of_setUp hlaw, SteerPins.next_count_of_no_drive hlaw, ?_⟩
    intro hset d rest hwait
    constructor
    · rintro m rfl
      exact SteerPins.next_count_of_drive hlaw hset hwait
    · rintro rfl
      refine (SteerPins.next_count_of_drive hlaw hset hwait).trans ?_
      simp [SteerPins.start, strobeMicros]

/-- Settles O6: each line by the definition of its level. -/
theorem outputLines : Obligations.OutputLines := by
  intro s
  refine ⟨alertLow_iff, ?high, ?low, ?released, ?lines, ?levels⟩
  case high | low | released => cases hstate : s.ctl.state <;> simp [srdy, hstate]
  case lines => simp [steeringLines]
  case levels =>
    intro lines hlines
    unfold steeringLines at hlines
    split at hlines
    · cases hlines
    · cases hlines
      simp

/-- Settles O7: every port is DOWN, every class unused, and every queue and table empty. -/
theorem lawsHoldAtReset : Obligations.LawsHoldAtReset := by
  have hstore : StoreLaw State.reset := ⟨fun _ => rfl, fun h => by cases h⟩
  refine ⟨?ports, ?steer, ⟨List.nodup_nil, .nil⟩, ?queue, ?peers, ?verdicts⟩
  case ports =>
    exact
      { store := hstore
        settings := by constructor <;> decide
        lanes := fun p => by simp [State.reset, LaneLaw]
        ports := fun p => by constructor <;> simp [State.reset, carrying]
        unconfigured := fun _ p => by simp [State.reset] }
  case steer =>
    exact
      { store := hstore
        classes := fun c => by constructor <;> simp [State.reset]
        entries := fun e he => by cases he
        single := List.nodup_nil
        move := by constructor <;> simp [State.reset]
        strobes := by constructor <;> simp [State.reset]
        unconfigured := fun _ c => by simp [State.reset]
        joining := fun _ e he => by cases he
        resetting := fun _ => ⟨rfl, rfl⟩ }
  case queue => constructor <;> simp [State.reset, hasHealth, slotKind, Timer.isRunning]
  case peers => constructor <;> simp [State.reset, isStationId]
  case verdicts =>
    intro _ sw
    constructor <;> simp [State.reset]

/-- Settles O14: the counter of a present lane saturates at 65535. -/
theorem serrPulseCounts : Obligations.SerrPulseCounts := by
  intro s p hawake
  have hexec : exec (.serrPulse p) s =
      .next (if awake s && (s.lanes.get p).present then s.setLane p (s.lanes.get p).countError else s) :=
    rfl
  have hcount : (s.lanes.get p).countError =
      { s.lanes.get p with
        errors := if (s.lanes.get p).errors < 65535 then (s.lanes.get p).errors + 1 else 65535 } := by
    unfold Lane.countError
    congr 1
    split <;> omega
  refine ⟨fun hpresent => ?_, fun habsent => ?_⟩
  · simp only [hexec, hawake, hpresent, hcount]
    rfl
  · simp [hexec, habsent]

end Sys2Proof.Proofs
end

section
/-! PROOFS. What one block hands another: a HEALTH cause, a recompute request, and a change of port state. -/

namespace Sys2Proof

/-- The second of two writes of one record stands. -/
theorem Four.set_set {α : Type} (f : Four α) (i : PortId) (a b : α) : (f.set i a).set i b = f.set i b := by
  fin_cases i <;> rfl

end Sys2Proof

namespace Sys2Proof.Machine

open Safety

/-! ## A HEALTH cause (R53, R55, R76) -/

theorem sendingHealth_iff {s : State} :
    sendingHealth s = true ↔ ∃ n, s.bus.activity = .sending .health n := by
  unfold sendingHealth
  split
  · next e n h => cases e <;> simp [h, TxEntry.isHealth]
  · next h => simpa using fun n => h .health n

theorem hasHealth_iff {s : State} : hasHealth s = true ↔ TxEntry.health ∈ s.bus.queue := by
  unfold hasHealth
  rw [List.any_eq_true]
  constructor
  · rintro ⟨e, he, hhealth⟩
    cases e with
    | health => exact he
    | digest target body => cases hhealth
  · exact fun h => ⟨_, h, rfl⟩

theorem healthCause_of_closed {s : State} (h : healthGate s = false) : healthCause s = s := by
  simp [healthCause, h]

theorem healthCause_of_sending {s : State} (hgate : healthGate s = true)
    (h : ∃ n, s.bus.activity = .sending .health n) :
    healthCause s = s.setBus { s.bus with dueMark := true } := by
  simp [healthCause, hgate, healthDue, sendingHealth_iff.mpr h]

theorem healthCause_of_waiting {s : State} (h : ∀ n, s.bus.activity ≠ .sending .health n)
    (hq : TxEntry.health ∈ s.bus.queue) : healthCause s = s := by
  have hsending : sendingHealth s = false := by
    rw [← Bool.not_eq_true, sendingHealth_iff]
    exact fun ⟨n, hn⟩ => h n hn
  simp [healthCause, healthDue, hsending, hasHealth_iff.mpr hq]

theorem healthCause_of_none {s : State} (hgate : healthGate s = true)
    (h : ∀ n, s.bus.activity ≠ .sending .health n) (hq : TxEntry.health ∉ s.bus.queue) :
    healthCause s = s.setBus { s.bus with queue := s.bus.queue ++ [.health] } := by
  have hsending : sendingHealth s = false := by
    rw [← Bool.not_eq_true, sendingHealth_iff]
    exact fun ⟨n, hn⟩ => h n hn
  have hhas : hasHealth s = false := by
    rw [← Bool.not_eq_true, hasHealth_iff]
    exact hq
  simp [healthCause, hgate, healthDue, hsending, hhas]

theorem causeHandled_healthCause (s : State) : CauseHandled (healthGate s) s.bus (healthCause s).bus where
  closed h := by rw [healthCause_of_closed h]
  marked hgate h := by rw [healthCause_of_sending hgate h]; rfl
  waiting _ h hq := by rw [healthCause_of_waiting h hq]
  joined hgate h hq := by rw [healthCause_of_none hgate h hq]; rfl

/-! ## A recompute request (R95, R96) -/

theorem requestRecompute_of_idle {s : State} (h : s.verdicts.activity = .idle) :
    requestRecompute s = startRecompute s := by
  simp [requestRecompute, h]

theorem requestRecompute_of_recomputing {s : State} {r : Recompute}
    (h : s.verdicts.activity = .recomputing r) :
    requestRecompute s = { s with verdicts := { s.verdicts with again := true } } := by
  simp [requestRecompute, h]

theorem recomputeRequested_requestRecompute (s : State) : RecomputeRequested s (requestRecompute s) where
  starts h := by
    rw [requestRecompute_of_idle h]
    exact ⟨rfl, rfl, startRecompute_switch s⟩
  again _ h := by rw [requestRecompute_of_recomputing h]

/-- A request is told from the verdict unit before it and from what a recompute reads after it. -/
theorem recomputeRequested_congr {s t s' t' : State} (h : RecomputeRequested s t)
    (hs : s'.verdicts = s.verdicts) (ht : t'.verdicts = t.verdicts)
    (hconfig : t'.ctl.config = t.ctl.config) (hopinions : t'.opinions = t.opinions)
    (hview : t'.view = t.view) : RecomputeRequested s' t' := by
  obtain ⟨hstarts, hagain⟩ := h
  simp only [settings] at hstarts
  constructor
  · rw [hs, ht, hopinions, hview, hconfig, settings, hconfig]
    exact hstarts
  · rw [hs, ht]
    exact hagain

/-! ## A change of port state (R33, R34, R138) -/

theorem drive_eq_pinsAfter (d : Drive) (p : SteerPins) : p.drive d = pinsAfter d p := by
  rcases p.drive_cases d with ⟨hrest, hwait, hdrive⟩ | ⟨hbusy, hdrive⟩
  · obtain ⟨hset, hmreq, hmcan⟩ := p.resting_iff.mp hrest
    unfold pinsAfter
    rw [hdrive, if_pos ⟨hset, hmreq, hmcan, hwait⟩]
    cases d <;> rfl
  · unfold pinsAfter
    rw [hdrive, if_neg]
    rintro ⟨hset, hmreq, hmcan, hwait⟩
    exact hbusy ⟨p.resting_iff.mpr ⟨hset, hmreq, hmcan⟩, hwait⟩

theorem drainedInAwait_eq_some {s : State} {m : Move} :
    drainedInAwait s = some m ↔
      s.mux.port = .await ∧ s.mux.outstanding = some m ∧ m.mode = .drained := by
  unfold drainedInAwait
  split
  · next m' hport hm =>
    split <;> grind
  · next h => simpa using fun hport hm _ => h m hport hm

theorem cancelsMove_iff {s : State} {p : PortId} {m : Move} :
    cancelsMove s p m = true ↔
      (p = m.target ∧ ((s.ports.get p).state = .down ∨ (s.ports.get p).state = .probation)) ∨
        ((s.classes.get m.cls).current = some p ∧ (s.ports.get p).state = .down) := by
  simp [cancelsMove]

theorem cancelTrigger_eq (p : PortId) (s : State) :
    cancelTrigger p s = { s with mux := muxAfterTrigger p s s } := by
  unfold cancelTrigger muxAfterTrigger
  split
  · next m hm =>
    obtain ⟨hport, hout, hmode⟩ := drainedInAwait_eq_some.mp hm
    simp only [hport, hout, hmode, true_and, ← cancelsMove_iff]
    split
    · rw [sendCancel, drive_eq_pinsAfter, ← hout]
      rfl
    · rfl
  · next hnone =>
    split
    · next m hport hout =>
      rw [if_neg fun h => by simp [drainedInAwait_eq_some.mpr ⟨hport, hout, h.1⟩] at hnone]
    · rfl

theorem joiningTest_of_ctl {s : State} (h : (joiningTest s).ctl = s.ctl) : joiningTest s = s := by
  unfold joiningTest at *
  split at h
  · next htest =>
    have hstate : s.ctl.state = .joining := of_decide_eq_true (Bool.and_eq_true_iff.mp htest).1
    have hactive : (enterActive s).ctl.state = .active := by simp [enterActive]
    rw [h, hstate] at hactive
    cases hactive
  · next htest => rw [if_neg htest]

theorem portChanged_of_ctl {p : PortId} {s : State} (h : (portChanged p s).ctl = s.ctl) :
    portChanged p s = issueTest (evaluateAll (cancelTrigger p (rederive s))) := by
  refine joiningTest_of_ctl ?_
  rw [issueTest_ctl, evaluateAll_ctl, cancelTrigger_ctl, rederive_ctl]
  exact h

/-- A port that is neither ABSENT nor UP keeps the joining window open. -/
theorem portChanged_ctl_of_not_up {p : PortId} {s : State} (habsent : (s.ports.get p).state ≠ .absent)
    (hup : (s.ports.get p).state ≠ .up) : (portChanged p s).ctl = s.ctl := by
  have hports : allPortsUp (issueTest (evaluateAll (cancelTrigger p (rederive s)))) = false := by
    rw [allPortsUp, List.all_eq_false]
    exact ⟨p, mem_allPorts p, by simp [habsent, hup]⟩
  simp [portChanged, joiningTest, hports]

theorem keepsPlacement_evaluated (s : State) : KeepsPlacement s (issueTest (evaluateAll s)) := by
  intro c
  obtain ⟨hprefs, hcurrent, hbarred⟩ := issueTest_kept (evaluateAll s) c
  obtain ⟨hprefs', hcurrent', -, hbarred'⟩ := evaluateAll_kept s c
  exact ⟨hprefs.trans hprefs', hcurrent.trans hcurrent', hbarred.trans hbarred'⟩

theorem evaluated_onlySteers (s : State) : OnlySteers s (issueTest (evaluateAll s)) :=
  onlySteers_trans (evaluateAll_onlySteers s) (issueTest_onlySteers _)

theorem rederive_of_same {s : State} (h : deriveOpinions s = s.opinions) : rederive s = s := if_pos h

theorem rederive_of_changed {s : State} (h : deriveOpinions s ≠ s.opinions) :
    rederive s = requestRecompute (healthCause { s with opinions := deriveOpinions s }) := if_neg h

theorem rederive_switch (s : State) (sw : SwitchId) :
    ((rederive s).verdicts.switches.get sw).verdict = (s.verdicts.switches.get sw).verdict ∧
      ((rederive s).verdicts.switches.get sw).condition = (s.verdicts.switches.get sw).condition ∧
      ((rederive s).verdicts.switches.get sw).holdTimer = (s.verdicts.switches.get sw).holdTimer := by
  by_cases h : deriveOpinions s = s.opinions
  · rw [rederive_of_same h]
    exact ⟨rfl, rfl, rfl⟩
  · rw [rederive_of_changed h]
    simp

theorem deriveOpinions_congr {s t : State} (hconfig : t.ctl.config = s.ctl.config)
    (hports : t.ports = s.ports) : deriveOpinions t = deriveOpinions s := by
  have hsame : ownOpinion t = ownOpinion s := funext fun sw => by simp [ownOpinion, hconfig, hports]
  rw [deriveOpinions, hsame, deriveOpinions]

/-- The evaluations that a change of port state hands onward start from the state `v`, and change the classes and the
steering port alone. -/
theorem handedOnward_of_evaluated {p : PortId} {s u v t : State} {lanes : Four Lane} {ports : Four PortRecord}
    (hu : u = { s with lanes := lanes, ports := ports }) (hv : v = cancelTrigger p (rederive u))
    (ht : t = issueTest (evaluateAll v)) : HandedOnward p s t := by
  have hsteers : OnlySteers v t := ht ▸ evaluated_onlySteers v
  have hplaced : KeepsPlacement v t := ht ▸ keepsPlacement_evaluated v
  have hderive : deriveOpinions t = deriveOpinions u :=
    deriveOpinions_congr (by rw [hsteers.ctl, hv]; simp) (by rw [hsteers.ports, hv]; simp)
  have hopinions : t.opinions = deriveOpinions u := by rw [hsteers.opinions, hv]; simp
  have hbus : t.bus = (rederive u).bus := by rw [hsteers.bus, hv]; simp
  have hverdicts : t.verdicts = (rederive u).verdicts := by rw [hsteers.verdicts, hv]; simp
  have hclasses : v.classes = s.classes := by rw [hv, hu]; simp
  have hmux : v.mux = muxAfterTrigger p s t := by
    have hports : t.ports = ports := by rw [hsteers.ports, hv, hu]; simp
    rw [hv, hu, cancelTrigger_eq]
    simp [muxAfterTrigger, afterMs, hports]
  have hmrdy : v.mux.mrdy = s.mux.mrdy ∧ v.mux.alertReleased = s.mux.alertReleased := by
    rw [hmux]
    unfold muxAfterTrigger
    split
    · split <;> exact ⟨rfl, rfl⟩
    · exact ⟨rfl, rfl⟩
  have hchanged (h : t.opinions ≠ s.opinions) :
      rederive u = requestRecompute (healthCause { u with opinions := deriveOpinions u }) := by
    refine rederive_of_changed ?_
    rw [← hopinions, hu]
    exact h
  exact
    { epoch := by rw [hsteers.epoch, hv, hu]; simp
      opinions := hopinions.trans hderive.symm
      same := fun h => by
        have hsame : rederive u = u := rederive_of_same (by rw [← hopinions, h, hu])
        rw [hbus, hverdicts, hsame, hu]
        exact ⟨rfl, rfl⟩
      health := fun h => by
        rw [hbus, hchanged h, requestRecompute_bus]
        subst hu
        exact causeHandled_healthCause
          { s with lanes := lanes, ports := ports, opinions := _ }
      recompute := fun h => by
        refine recomputeRequested_congr (recomputeRequested_requestRecompute
          (healthCause { u with opinions := deriveOpinions u })) ?_ ?_ ?_ ?_ ?_
        · simp [hu]
        · rw [hverdicts, hchanged h]
        · rw [hsteers.ctl, hv]
          simp
        · rw [hopinions]
          simp
        · rw [hsteers.view, hv]
          simp
      verdicts := fun sw => by
        rw [hverdicts]
        refine (rederive_switch u sw).imp (fun h => ?_) (.imp (fun h => ?_) fun h => ?_) <;>
          rw [h, hu]
      steering := by
        rw [← hmux, ← hclasses]
        refine ht.trans (congrArg _ (congrArg _ ?_))
        have heq := onlySteers_eq hsteers
        rw [heq]
      beacon := by rw [hsteers.beacon, hv, hu]; simp
      view := by rw [hsteers.view, hv, hu]; simp
      classes := fun c => by rw [← hclasses]; exact hplaced c
      mrdy := hsteers.mrdy.trans hmrdy.1
      alertReleased := hsteers.alertReleased.trans hmrdy.2
      ctl := by rw [hsteers.ctl, hv, hu]; simp
      pending := by rw [hsteers.pending, hv, hu]; simp }

theorem handedOnward_portChanged {p : PortId} {s : State} {lanes : Four Lane} {ports : Four PortRecord}
    (hctl : (portChanged p { s with lanes := lanes, ports := ports }).ctl = s.ctl) :
    HandedOnward p s (portChanged p { s with lanes := lanes, ports := ports }) :=
  handedOnward_of_evaluated rfl rfl (portChanged_of_ctl hctl)

end Sys2Proof.Machine
end

section
/-! PROOFS. The commands of the lanes and the port records: HELLO and SIG, the epoch end of a lane, the revert timer, and
the own opinion of a switch. -/

namespace Sys2Proof.Machine

open Safety

variable {s : State} {p : PortId}

/-! ## Entries to DOWN and to PROBATION, with the change handed onward -/

/-- A port of a lane that was written just before enters DOWN (R27). -/
theorem enterDown_setLane (s : State) (p : PortId) (cause : Cause) (l : Lane) :
    (enterDown p cause (s.setLane p l)).ports = s.ports.set p
        { state := .down, cause := cause, score := 1023, cleanEpochs := 0, upSince := none,
          revertTimer := none, revertReady := false } ∧
      (enterDown p cause (s.setLane p l)).lanes =
        s.lanes.set p { l with helloTimer := .stopped, helloSeen := false } ∧
      HandedOnward p s (enterDown p cause (s.setLane p l)) := by
  refine ⟨?ports, ?lanes, handedOnward_portChanged ?ctl⟩
  case ports =>
    simp only [enterDown, portChanged_ports]
    rfl
  case lanes => simp [enterDown, Four.set_set, Lane.quieten]
  case ctl => exact portChanged_ctl_of_not_up (by simp [PortRecord.fall]) (by simp [PortRecord.fall])

/-- A port of a lane that was written just before enters PROBATION (R12, R22). -/
theorem enterProbation_setLane (s : State) (p : PortId) (l : Lane) :
    (enterProbation p (s.setLane p l)).ports =
        s.ports.set p { s.ports.get p with state := .probation, cleanEpochs := 0 } ∧
      (enterProbation p (s.setLane p l)).lanes = s.lanes.set p
        { l with
          helloTimer := if l.supervised then .running (countedMs s ((settings s).helloLimit * 10))
            else l.helloTimer } ∧
      (enterProbation p (s.setLane p l)).ctl = s.ctl ∧
      HandedOnward p s (enterProbation p (s.setLane p l)) := by
  have hctl : (enterProbation p (s.setLane p l)).ctl = s.ctl :=
    portChanged_ctl_of_not_up (by simp) (by simp)
  refine ⟨?ports, ?lanes, hctl, handedOnward_portChanged hctl⟩
  case ports => simp [enterProbation]
  case lanes =>
    simp only [enterProbation, portChanged_lanes, State.setLane_lanes, State.setPort_lanes, Four.set_set,
      Four.get_set_same]
    rfl

theorem reportLoss_of_entered (cause : Cause)
    (h : (s.ports.get p).state = .probation ∨ (s.ports.get p).state = .up ∨
      (s.ports.get p).state = .suspect) : reportLoss p cause s = enterDown p cause s := by
  rcases h with h | h | h <;> simp only [reportLoss, h]

theorem reportLoss_of_down (cause : Cause) (h : (s.ports.get p).state = .down) :
    reportLoss p cause s = s := by
  simp only [reportLoss, h]

theorem probationReady_iff : probationReady s p = true ↔
    steers s = true ∧ (s.ports.get p).state = .down ∧ (s.lanes.get p).level = some true ∧
      ((s.lanes.get p).supervised = false ∨ (s.lanes.get p).helloSeen = true) := by
  simp [probationReady, Lane.helloMet, and_assoc]

theorem probationCheck_of_ready (h : probationReady s p = true) :
    probationCheck p s = enterProbation p s := if_pos h

theorem probationCheck_of_not_ready (h : ¬ probationReady s p = true) : probationCheck p s = s := if_neg h

theorem not_steers_of_unconfigured (h : s.ctl.state = .unconfigured) : ¬ steers s = true := by
  simp [steers, h]

/-! ## HELLO_PULSE, SIGNAL_LOSS and SIGNAL_PRESENT -/

theorem exec_helloPulse (hawake : awake s = true) (hpresent : (s.lanes.get p).present = true)
    (hsup : (s.lanes.get p).supervised = true) : exec (.helloPulse p) s = .next (takeHello p s) := by
  simp [exec, execHelloPulse, hawake, hpresent, hsup]

theorem exec_helloPulse_ignored
    (h : (s.lanes.get p).present = false ∨ (s.lanes.get p).supervised = false) :
    exec (.helloPulse p) s = .next s := by
  rcases h with h | h <;> simp [exec, execHelloPulse, h]

theorem recordsSignal_of_present (hstate : s.ctl.state ≠ .hold) (h : (s.lanes.get p).present = true) :
    recordsSignal s p = true := by
  simp [recordsSignal, hstate, h]

theorem recordsSignal_of_absent (h : (s.lanes.get p).present = false) : recordsSignal s p = false := by
  simp [recordsSignal, h]

theorem not_hold_of_awake (h : awake s = true) : s.ctl.state ≠ .hold := by
  rintro hhold
  simp [awake, hhold] at h

theorem not_awake_of_resetting (h : s.ctl.state = .resetting) : awake s = false := by
  simp [awake, h]

theorem exec_signalLoss (hawake : awake s = true) (h : (s.lanes.get p).present = true) :
    exec (.signalLoss p) s = .next (reportLoss p .signal (recordLevel p false s)) := by
  simp [exec, execSignalLoss, recordsSignal_of_present (not_hold_of_awake hawake) h, hawake]

theorem exec_signalPresent (hawake : awake s = true) (h : (s.lanes.get p).present = true) :
    exec (.signalPresent p) s = .next (probationCheck p (recordLevel p true s)) := by
  simp [exec, execSignalPresent, recordsSignal_of_present (not_hold_of_awake hawake) h, hawake]

/-! ## The epoch end of a lane (R4, R7) -/

/-- What an epoch result can do to a lane: it stops the hello timer and clears the flag, for an entry to DOWN. -/
def LineKept (before after : Lane) : Prop :=
  after = { before with helloTimer := after.helloTimer, helloSeen := after.helloSeen }

theorem lineKept_refl (l : Lane) : LineKept l l := rfl

theorem LineKept.trans {a b c : Lane} (h : LineKept a b) (h' : LineKept b c) : LineKept a c := by
  unfold LineKept at *
  rw [h', h]

theorem deliverEpoch_lanes (s : State) (p : PortId) (e : Nat) :
    (deliverEpoch p e s).lanes = s.lanes ∨
      (deliverEpoch p e s).lanes = s.lanes.set p (s.lanes.get p).quieten := by
  rcases deliverEpoch_cases s p e with h | ⟨r, h⟩ | h | h | ⟨r, h⟩ <;> rw [h]
  · exact .inl rfl
  · exact .inl rfl
  · exact .inl (by simp [enterUp])
  · exact .inr (by simp [enterDown])
  · exact .inl (by simp)

theorem deliverResult_lane (before : Four Lane) (s : State) (p q : PortId) :
    LineKept (s.lanes.get q) ((deliverResult before s p).lanes.get q) ∧
      ((before.get q).present = false → (deliverResult before s p).lanes.get q = s.lanes.get q) := by
  unfold deliverResult
  split
  · next hpresent =>
    rcases deliverEpoch_lanes s p (before.get p).errors with h | h <;> rw [h]
    · exact ⟨rfl, fun _ => rfl⟩
    · by_cases hq : q = p
      · subst hq
        simp [LineKept, Lane.quieten, hpresent]
      · simp [Four.get_set_other _ _ hq, lineKept_refl]
  · exact ⟨rfl, fun _ => rfl⟩

theorem foldl_deliverResult_lane (before : Four Lane) (l : List PortId) (s : State) (q : PortId) :
    LineKept (s.lanes.get q) ((l.foldl (deliverResult before) s).lanes.get q) ∧
      ((before.get q).present = false →
        (l.foldl (deliverResult before) s).lanes.get q = s.lanes.get q) := by
  induction l generalizing s with
  | nil => exact ⟨rfl, fun _ => rfl⟩
  | cons p l ih =>
    obtain ⟨hkept, habsent⟩ := ih (deliverResult before s p)
    obtain ⟨hkept', habsent'⟩ := deliverResult_lane before s p q
    exact ⟨hkept'.trans hkept, fun h => (habsent h).trans (habsent' h)⟩

theorem endEpoch_lane_present (h : (s.lanes.get p).present = true) :
    LineKept (s.lanes.get p).closeEpoch ((endEpoch s).lanes.get p) := by
  have hkept := (foldl_deliverResult_lane s.lanes allPorts
    { s with lanes := s.lanes.map fun l => if l.present then l.closeEpoch else l } p).1
  simp only [Four.get_map, h, if_true] at hkept
  exact hkept

theorem endEpoch_lane_absent (h : (s.lanes.get p).present = false) :
    (endEpoch s).lanes.get p = s.lanes.get p := by
  have hkept := (foldl_deliverResult_lane s.lanes allPorts
    { s with lanes := s.lanes.map fun l => if l.present then l.closeEpoch else l } p).2 h
  simp only [Four.get_map, h, Bool.false_eq_true, if_false] at hkept
  exact hkept

/-- What no delivery of an epoch result touches. -/
theorem deliverResult_kept (before : Four Lane) (s : State) (p : PortId) :
    (deliverResult before s p).beacon = s.beacon ∧ (deliverResult before s p).view = s.view ∧
      (deliverResult before s p).epoch = s.epoch ∧
      (deliverResult before s p).ctl.time = s.ctl.time := by
  unfold deliverResult
  split
  · rcases deliverEpoch_cases s p (before.get p).errors with h | ⟨r, h⟩ | h | h | ⟨r, h⟩ <;> rw [h]
    · exact ⟨rfl, rfl, rfl, rfl⟩
    · exact ⟨rfl, rfl, rfl, rfl⟩
    all_goals simp [enterUp, enterDown, portChanged_time]
  · exact ⟨rfl, rfl, rfl, rfl⟩

theorem endEpoch_kept (s : State) :
    (endEpoch s).beacon = s.beacon ∧ (endEpoch s).view = s.view ∧ (endEpoch s).epoch = s.epoch ∧
      (endEpoch s).ctl.time = s.ctl.time := by
  have hfold : ∀ (l : List PortId) (u : State), (l.foldl (deliverResult s.lanes) u).beacon = u.beacon ∧
      (l.foldl (deliverResult s.lanes) u).view = u.view ∧
      (l.foldl (deliverResult s.lanes) u).epoch = u.epoch ∧
      (l.foldl (deliverResult s.lanes) u).ctl.time = u.ctl.time := by
    intro l
    induction l with
    | nil => exact fun _ => ⟨rfl, rfl, rfl, rfl⟩
    | cons q l ih =>
      intro u
      obtain ⟨hbeacon, hview, hepoch, htime⟩ := ih (deliverResult s.lanes u q)
      obtain ⟨hbeacon', hview', hepoch', htime'⟩ := deliverResult_kept s.lanes u q
      exact ⟨hbeacon.trans hbeacon', hview.trans hview', hepoch.trans hepoch', htime.trans htime'⟩
  exact hfold allPorts _

theorem exec_epochEnd_early {due : Instant} (hepoch : s.epoch = .running due) (hdue : ¬ RanOut s due) :
    exec .epochEnd s = .next s := by
  have hdue : ranOut (clock s) due = false := isDue_of_not_ranOut hdue
  simp [exec, execEpochEnd, nextEpoch, hepoch, hdue]

/-! ## The own opinion of a switch (R32) -/

theorem mem_mappedPorts {config : Option Settings} {sw : SwitchId} :
    p ∈ mappedPorts config sw ↔ ∃ g, config = some g ∧ (g.portMap.get p).absent = false ∧
      (g.portMap.get p).switch = sw := by
  cases config <;> simp [mappedPorts]

section Opinions

variable {states : List PortState}

theorem opinionOf_nil : opinionOf [] = .none := rfl

theorem opinionOf_clear (hne : states ≠ []) (h : ∀ x ∈ states, x = .up) : opinionOf states = .clear := by
  have hup : states.all (· == .up) = true := by simpa using h
  simp [opinionOf, hne, hup]

theorem opinionOf_lost (hne : states ≠ []) (h : ∀ x ∈ states, x = .down ∨ x = .probation) :
    opinionOf states = .lost := by
  obtain ⟨x, hx⟩ := List.exists_mem_of_ne_nil states hne
  have hup : states.all (· == .up) = false := by
    rw [List.all_eq_false]
    exact ⟨x, hx, by rcases h x hx with rfl | rfl <;> decide⟩
  have hlost : (states.all fun p => p == .down || p == .probation) = true := by simpa using h
  simp [opinionOf, hne, hup, hlost]

theorem opinionOf_impaired (hup : ∃ x ∈ states, x ≠ .up) (hlost : ∃ x ∈ states, x ≠ .down ∧ x ≠ .probation) :
    opinionOf states = .impaired := by
  have hne : states ≠ [] := List.ne_nil_of_mem hup.choose_spec.1
  have hup : states.all (· == .up) = false := by simpa using hup
  have hlost : (states.all fun p => p == .down || p == .probation) = false := by simpa using hlost
  simp [opinionOf, hne, hup, hlost]

end Opinions

end Sys2Proof.Machine

namespace Sys2Proof.Proofs

open Sys2Proof.Machine Sys2Proof.Safety

/-- Settles O15: by the state of the port; a DOWN port whose check succeeds enters PROBATION by `enterProbation`. -/
theorem helloPulseActsByPortState : Obligations.HelloPulseActsByPortState := by
  intro s p hawake
  refine ⟨exec_helloPulse_ignored, fun hpresent hsup => ⟨fun hstate => ?restart, fun hdown hseen => ?known,
    fun hdown hclear => ?first⟩⟩ <;> rw [exec_helloPulse hawake hpresent hsup]
  case restart =>
    rcases hstate with h | h | h <;> simp only [takeHello, h] <;> rfl
  case known => simp [takeHello, hdown, helloOnDown, hseen]
  case first =>
    have htake : takeHello p s =
        probationCheck p (s.setLane p { s.lanes.get p with helloSeen := true }) := by
      simp [takeHello, hdown, helloOnDown, hclear]
    refine ⟨fun hno => ?_, fun hsteers hlevel => ?_⟩
    · rw [htake, probationCheck_of_not_ready]
      · rfl
      · rw [probationReady_iff]
        rintro ⟨hsteers, -, hlevel, -⟩
        rcases hno with hno | hno
        · exact not_steers_of_unconfigured (s := s) hno hsteers
        · exact hno (by simpa using hlevel)
    · have hready : probationReady (s.setLane p { s.lanes.get p with helloSeen := true }) p = true :=
        probationReady_iff.mpr ⟨hsteers, hdown, by simpa using hlevel, by simp⟩
      obtain ⟨hports, hlanes, hctl, honward⟩ :=
        enterProbation_setLane s p { s.lanes.get p with helloSeen := true }
      rw [htake, probationCheck_of_ready hready]
      refine ⟨_, rfl, hports, hlanes.trans ?_, hctl, honward⟩
      simp [hsup]

/-- Settles O16: the level is recorded, and the loss takes the port DOWN by `enterDown`. -/
theorem signalLossTakesPortDown : Obligations.SignalLossTakesPortDown := by
  intro s p
  refine ⟨fun hawake hpresent => ⟨fun hstate => ?down, fun hdown => ?stays⟩, fun habsent => ?absent,
    fun hreset hpresent => ?reset⟩
  case down =>
    rw [exec_signalLoss hawake hpresent, reportLoss_of_entered (s := recordLevel p false s) .signal hstate]
    exact ⟨_, rfl, enterDown_setLane s p .signal { s.lanes.get p with level := some false }⟩
  case stays =>
    rw [exec_signalLoss hawake hpresent, reportLoss_of_down (s := recordLevel p false s) .signal hdown]
    rfl
  case absent => simp [exec, execSignalLoss, recordsSignal_of_absent habsent]
  case reset =>
    have hrecords : recordsSignal s p = true := recordsSignal_of_present (by simp [hreset]) hpresent
    simp only [exec, execSignalLoss, hrecords, not_awake_of_resetting hreset]
    rfl

/-- Settles O17: the level is recorded, and the port enters PROBATION exactly where the PROBATION check succeeds. -/
theorem signalPresentEntersProbation : Obligations.SignalPresentEntersProbation := by
  intro s p
  refine ⟨fun hawake hpresent => ⟨fun hsteers hdown hmet => ?enters, fun hno => ?stays⟩,
    fun habsent => ?absent, fun hreset hpresent => ?reset⟩
  case enters =>
    have hready : probationReady (recordLevel p true s) p = true :=
      probationReady_iff.mpr ⟨hsteers, hdown, by simp [recordLevel], by simpa [recordLevel] using hmet⟩
    obtain ⟨hports, hlanes, -, honward⟩ :=
      enterProbation_setLane s p { s.lanes.get p with level := some true }
    rw [exec_signalPresent hawake hpresent, probationCheck_of_ready hready]
    exact ⟨_, rfl, hports, hlanes, honward⟩
  case stays =>
    rw [exec_signalPresent hawake hpresent, probationCheck_of_not_ready]
    · rfl
    · rw [probationReady_iff]
      rintro ⟨hsteers, hdown, -, hmet⟩
      rcases hno with hno | hno | ⟨hsup, hseen⟩
      · exact not_steers_of_unconfigured (s := s) hno hsteers
      · exact hno hdown
      · simp [recordLevel, hsup, hseen] at hmet
  case absent => simp [exec, execSignalPresent, recordsSignal_of_absent habsent]
  case reset =>
    have hrecords : recordsSignal s p = true := recordsSignal_of_present (by simp [hreset]) hpresent
    simp only [exec, execSignalPresent, hrecords, not_awake_of_resetting hreset]
    rfl

/-- Settles O18: the expiry is the loss of `enterDown` with cause SILENT, once the hello timer is due. -/
theorem helloSilenceTakesPortDown : Obligations.HelloSilenceTakesPortDown := by
  intro s p
  refine ⟨fun due hawake htimer hdue hstate => ?down, fun hstopped => ?stopped,
    fun due htimer hdue => ?early⟩
  case down =>
    have hexec : exec (.helloSilence p) s =
        .next (reportLoss p .silent (s.setLane p { s.lanes.get p with helloTimer := .stopped })) := by
      simp [exec, execHelloSilence, hawake, htimer, isDue_running.mpr hdue]
    rw [hexec, reportLoss_of_entered (s := s.setLane p _) .silent hstate]
    exact ⟨_, rfl, enterDown_setLane s p .silent { s.lanes.get p with helloTimer := .stopped }⟩
  case stopped => simp [exec, execHelloSilence, isDue_of_not_running hstopped]
  case early => simp [exec, execHelloSilence, htimer, isDue_of_not_ranOut hdue]

/-- Settles O19: every present lane closes its epoch at once, and the deliveries that follow touch the hello timer and
the flag alone. -/
theorem epochEndClosesEveryLane : Obligations.EpochEndClosesEveryLane := by
  intro s due hstate hepoch
  refine ⟨exec_epochEnd_early hepoch, fun hdue => ⟨_, exec_epochEnd_ranOut s hstate hepoch hdue, ?_⟩⟩
  obtain ⟨hbeacon, hview, hrun, htime⟩ := endEpoch_kept { s with epoch := startTimer due epochMs }
  refine ⟨hrun, hbeacon, hview, htime, fun p => ⟨fun hpresent => ?_, fun habsent => ?_⟩⟩
  · have hkept : LineKept _ _ :=
      endEpoch_lane_present (s := { s with epoch := startTimer due epochMs }) hpresent
    rw [hkept]
    exact ⟨rfl, rfl, rfl, hpresent, rfl⟩
  · exact endEpoch_lane_absent (s := { s with epoch := startTimer due epochMs }) habsent

/-- Settles O22: the record is written, then the evaluations and the issue test change steering alone. -/
theorem revertTimerExpirySetsFlag : Obligations.RevertTimerExpirySetsFlag := by
  intro s p due hawake htimer
  have hrevert : (s.ports.get p).revertDue (clock s) = (Timer.running due).isDue (clock s) := by
    simp [PortRecord.revertDue, htimer]
  refine ⟨fun hdue => ?early, fun hdue => ?expires⟩
  case early => simp [exec, execRevertTimerExpiry, hrevert, isDue_of_not_ranOut hdue]
  case expires =>
    have hexec : exec (.revertTimerExpiry p) s =
        .next (issueTest (evaluateAll (s.setPort p (s.ports.get p).holdUp))) := by
      simp [exec, execRevertTimerExpiry, hawake, hrevert, isDue_running.mpr hdue]
    have hports : (issueTest (evaluateAll (s.setPort p (s.ports.get p).holdUp))).ports =
        s.ports.set p (s.ports.get p).holdUp := by simp
    refine ⟨_, hexec, rfl, hports, ?_, ?_⟩
    · rw [hports]
      exact evaluated_onlySteers (s.setPort p (s.ports.get p).holdUp)
    · exact keepsPlacement_evaluated (s.setPort p (s.ports.get p).holdUp)

/-- Settles O23: the opinion is that of the states of the mapped ports, case by case. -/
theorem ownOpinionFollowsPortStates : Obligations.OwnOpinionFollowsPortStates := by
  intro s sw mapped
  have hmapped (p : PortId) : mapped p ↔ p ∈ mappedPorts s.ctl.config sw := mem_mappedPorts.symm
  have hne (h : ∃ p, mapped p) :
      (mappedPorts s.ctl.config sw).map (fun p => (s.ports.get p).state) ≠ [] := by
    obtain ⟨p, hp⟩ := h
    exact List.ne_nil_of_mem (List.mem_map_of_mem ((hmapped p).mp hp))
  have hall {Q : PortState → Prop} (h : ∀ p, mapped p → Q (s.ports.get p).state) :
      ∀ x ∈ (mappedPorts s.ctl.config sw).map (fun p => (s.ports.get p).state), Q x :=
    List.forall_mem_map.mpr fun p hp => h p ((hmapped p).mpr hp)
  have hsome {Q : PortState → Prop} (h : ∃ p, mapped p ∧ Q (s.ports.get p).state) :
      ∃ x ∈ (mappedPorts s.ctl.config sw).map (fun p => (s.ports.get p).state), Q x := by
    obtain ⟨p, hp, hQ⟩ := h
    exact ⟨_, List.mem_map_of_mem ((hmapped p).mp hp), hQ⟩
  have hempty (h : ∀ p, ¬ mapped p) : mappedPorts s.ctl.config sw = [] :=
    List.eq_nil_iff_forall_not_mem.mpr fun p hp => h p ((hmapped p).mpr hp)
  refine ⟨fun h => ?none, fun h hup => opinionOf_clear (hne h) (hall hup),
    fun h hdown => opinionOf_lost (hne h) (hall hdown),
    fun hup hdown => opinionOf_impaired (hsome hup) (hsome hdown), fun hconfig => ?unconfigured,
    fun t hconfig hstates => ?alone⟩
  case none => simp [ownOpinion, hempty h, opinionOf_nil]
  case unconfigured => simp [ownOpinion, hconfig, mappedPorts, opinionOf_nil]
  case alone =>
    have hsame := List.map_congr_left fun p hp => hstates p ((hmapped p).mpr hp)
    simp only [ownOpinion, hconfig, hsame]

end Sys2Proof.Proofs
end

section
/-! PROOFS. The bytes of notices: the check code, and what is read back from a built HEALTH and a built DIGEST. -/

namespace Sys2Proof.Machine

/-! ## The check code (R46) -/

/-- The register before one bit of the check code. -/
def uncrcBit (c : Byte) : Byte := if c.getLsbD 0 then ((c ^^^ 0x07#8) >>> 1) ||| 0x80#8 else c >>> 1

theorem uncrcBit_crcBit (c : Byte) : uncrcBit (crcBit c) = c := by revert c; decide

theorem crcBit_injective : Function.Injective crcBit :=
  Function.LeftInverse.injective uncrcBit_crcBit

theorem crcByte_eq (c b : Byte) : crcByte c b = crcBit^[8] (c ^^^ b) := rfl

theorem crcByte_injective_register (b : Byte) : Function.Injective fun c => crcByte c b := fun c d h => by
  simp only [crcByte_eq] at h
  simpa [BitVec.xor_assoc] using congrArg (· ^^^ b) (crcBit_injective.iterate 8 h)

theorem crcByte_injective_byte (c : Byte) : Function.Injective (crcByte c) := fun a b h => by
  simp only [crcByte_eq] at h
  simpa [← BitVec.xor_assoc] using congrArg (c ^^^ ·) (crcBit_injective.iterate 8 h)

/-- The bytes that follow keep two registers apart. -/
theorem foldl_crcByte_injective (back : List Byte) :
    Function.Injective fun c => back.foldl crcByte c := by
  induction back with
  | nil => exact fun _ _ h => h
  | cons b back ih => exact ih.comp (crcByte_injective_register b)

theorem checkCode_append_cons (front back : List Byte) (a : Byte) :
    checkCode (front ++ a :: back) = back.foldl crcByte (crcByte (checkCode front) a) := by
  simp [checkCode]

/-! ## A built notice -/

theorem buildNotice_body (k : NoticeKind) (sender target : Byte) {body : List Byte} (h : body.length < 256) :
    (buildNotice k sender target body).body = body := by
  have hlen : body.length % 256 = body.length := Nat.mod_eq_of_lt h
  simp [Notice.body, buildNotice, hlen]

theorem buildNotice_check (k : NoticeKind) (sender target : Byte) {body : List Byte} (h : body.length < 256) :
    (buildNotice k sender target body).check =
      some (checkCode ((buildNotice k sender target body).header.bytes ++ body)) := by
  have hlen : body.length % 256 = body.length := Nat.mod_eq_of_lt h
  simp [Notice.check, buildNotice, hlen]

theorem buildNotice_complete (k : NoticeKind) (sender target : Byte) {body : List Byte}
    (h : body.length < 256) : (buildNotice k sender target body).complete = true := by
  simp [Notice.complete, buildNotice_check k sender target h]

theorem buildNotice_checkRight (k : NoticeKind) (sender target : Byte) {body : List Byte}
    (h : body.length < 256) : (buildNotice k sender target body).checkRight = true := by
  simp [Notice.checkRight, buildNotice_check k sender target h, buildNotice_body k sender target h]

/-! ## Fields of two bits (R65, R72) -/

theorem packPairs_toNat {a b c d : Nat} (ha : a < 4) (hb : b < 4) (hc : c < 4) (hd : d < 4) :
    (packPairs a b c d).toNat = a * 64 + b * 16 + c * 4 + d := by
  rw [packPairs, BitVec.toNat_ofNat]
  omega

theorem pairField_packPairs {a b c d : Nat} (ha : a < 4) (hb : b < 4) (hc : c < 4) (hd : d < 4) :
    pairField (packPairs a b c d).toNat 0 = a ∧ pairField (packPairs a b c d).toNat 1 = b ∧
      pairField (packPairs a b c d).toNat 2 = c ∧ pairField (packPairs a b c d).toNat 3 = d := by
  rw [packPairs_toNat ha hb hc hd]
  simp only [pairField]
  omega

theorem Opinion.code_lt (o : Opinion) : o.code < 4 := by cases o <;> decide

theorem readOpinion_code (o : Opinion) : readOpinion o.code = o := by cases o <;> rfl

theorem Verdict.code_lt (v : Verdict) : v.code < 4 := by cases v <;> decide

/-! ## HEALTH (R65 to R67) -/

theorem readOpinions_healthBody (state : SenderState) (o : Eight Opinion) :
    readOpinions (healthBody state o) = o := by
  obtain ⟨h0, h1, h2, h3⟩ :=
    pairField_packPairs o.e0.code_lt o.e1.code_lt o.e2.code_lt o.e3.code_lt
  obtain ⟨h4, h5, h6, h7⟩ :=
    pairField_packPairs o.e4.code_lt o.e5.code_lt o.e6.code_lt o.e7.code_lt
  have hfirst : byteAt (healthBody state o) 1 =
      (packPairs o.e0.code o.e1.code o.e2.code o.e3.code).toNat := rfl
  have hsecond : byteAt (healthBody state o) 2 =
      (packPairs o.e4.code o.e5.code o.e6.code o.e7.code).toNat := rfl
  refine Eight.eq_of_get fun sw => ?_
  rw [readOpinions, Eight.get_build]
  fin_cases sw <;>
    simp [hfirst, hsecond, h0, h1, h2, h3, h4, h5, h6, h7, readOpinion_code, Eight.get]

theorem readSender_healthBody (state : SenderState) (o : Eight Opinion) :
    readSender (healthBody state o) = state := by
  cases state <;> rfl

/-! ## DIGEST (R72 to R75) -/

theorem twoBytes_toNat {v : Nat} (h : v < 65536) :
    (BitVec.ofNat 8 (v / 256)).toNat * 256 + (BitVec.ofNat 8 v).toNat = v := by
  simp only [BitVec.toNat_ofNat]
  omega

theorem timeBytes_toNat (t : Time) :
    (((t.extractLsb' 24 8).toNat * 256 + (t.extractLsb' 16 8).toNat) * 256 +
      (t.extractLsb' 8 8).toNat) * 256 + (t.extractLsb' 0 8).toNat = t.toNat := by
  have ht := t.isLt
  simp only [BitVec.extractLsb'_toNat, Nat.shiftRight_eq_div_pow]
  omega

theorem flagBit_le (b : Bool) : flagBit b ≤ 1 := by cases b <;> decide

theorem StationState.code_lt (st : StationState) : st.code < 4 := by cases st <;> decide

theorem PortState.code_lt (st : PortState) : st.code < 8 := by cases st <;> decide

theorem Cause.code_lt (c : Cause) : c.code < 4 := by cases c <;> decide

theorem ClassStatus.code_lt (st : ClassStatus) : st.code < 8 := by cases st <;> decide

theorem SteerState.code_lt (st : SteerState) : st.code < 8 := by cases st <;> decide

theorem currentCode_le (p : Option PortId) : currentCode p ≤ 4 := by
  cases p with
  | none => exact le_refl 4
  | some p => exact p.isLt.le

/-- The flags of the first byte, each at its place. -/
theorem digestFlags_fields (s : State) :
    (digestFlags s).toNat / 64 = s.ctl.state.code ∧
      (digestFlags s).toNat / 32 % 2 = flagBit s.ctl.silenced ∧
      (digestFlags s).toNat / 16 % 2 = flagBit s.bus.overrun ∧
      (digestFlags s).toNat / 8 % 2 = flagBit s.ctl.lateConfig ∧
      (digestFlags s).toNat / 4 % 2 = flagBit s.ctl.defaulted ∧
      (digestFlags s).toNat / 2 % 2 = flagBit s.bus.lastTaken ∧ (digestFlags s).toNat % 2 = 0 := by
  have hstate := s.ctl.state.code_lt
  have hsilenced := flagBit_le s.ctl.silenced
  have hoverrun := flagBit_le s.bus.overrun
  have hlate := flagBit_le s.ctl.lateConfig
  have hdefaulted := flagBit_le s.ctl.defaulted
  have htaken := flagBit_le s.bus.lastTaken
  rw [digestFlags, BitVec.toNat_ofNat]
  omega

/-- The five bytes of a port, each at its place in the body. -/
theorem byteAt_digestBody_port (s : State) (p : PortId) :
    byteAt (digestBody s) (5 + 5 * p.val) =
        (BitVec.ofNat 8 ((s.ports.get p).state.code * 16 + (s.ports.get p).cause.code)).toNat ∧
      byteAt (digestBody s) (6 + 5 * p.val) = (BitVec.ofNat 8 ((s.ports.get p).score / 256)).toNat ∧
      byteAt (digestBody s) (7 + 5 * p.val) = (BitVec.ofNat 8 (s.ports.get p).score).toNat ∧
      byteAt (digestBody s) (8 + 5 * p.val) = (BitVec.ofNat 8 ((s.lanes.get p).peak / 256)).toNat ∧
      byteAt (digestBody s) (9 + 5 * p.val) = (BitVec.ofNat 8 (s.lanes.get p).peak).toNat := by
  fin_cases p <;> exact ⟨rfl, rfl, rfl, rfl, rfl⟩

theorem byteAt_digestBody_class (s : State) (c : ClassId) :
    byteAt (digestBody s) (27 + c.val) = (digestClass s c).toNat := by
  fin_cases c <;> rfl

theorem pairField_digestBody (s : State) (sw : SwitchId) :
    pairField (byteAt (digestBody s) (25 + sw.val / 4)) (sw.val % 4) = verdictCode s sw := by
  have hcode (x : SwitchId) : verdictCode s x < 4 := Verdict.code_lt _
  obtain ⟨h0, h1, h2, h3⟩ := pairField_packPairs (hcode 0) (hcode 1) (hcode 2) (hcode 3)
  obtain ⟨h4, h5, h6, h7⟩ := pairField_packPairs (hcode 4) (hcode 5) (hcode 6) (hcode 7)
  fin_cases sw
  exacts [h0, h1, h2, h3, h4, h5, h6, h7]

theorem countedPeers_le (entries : List PeerEntry) : countedPeers entries ≤ entries.length :=
  List.countP_le_length

end Sys2Proof.Machine

namespace Sys2Proof.Proofs

open Sys2Proof.Machine Sys2Proof.Safety

/-- Settles O24: a bit of the check code can be undone, so the register keeps two different bytes apart to the end. -/
theorem checkCodeSeesOneWrongByte : Obligations.CheckCodeSeesOneWrongByte := by
  intro front back a b hne heq
  rw [checkCode_append_cons, checkCode_append_cons] at heq
  exact hne (crcByte_injective_byte _ (foldl_crcByte_injective back heq))

/-- Settles O25: the notice is that of `buildNotice`, and its body that of `healthBody`. -/
theorem healthReadsBackAsBuilt : Obligations.HealthReadsBackAsBuilt := by
  intro s n hstate hid hn
  have hlen : (healthBody (ownSenderState s) s.opinions).length < 256 := by simp [healthBody]
  have hbody : n.body = healthBody (ownSenderState s) s.opinions := hn ▸ buildNotice_body _ _ _ hlen
  have hid : s.ctl.id ≤ 30 := by
    simp [isStationId] at hid
    exact hid.2
  refine ⟨by rw [hn]; rfl, by rw [hn]; rfl, hn ▸ buildNotice_complete _ _ _ hlen,
    hn ▸ buildNotice_checkRight _ _ _ hlen, ?sender, ?state, ?opinions⟩
  case sender =>
    have hsender : n.header.sender = BitVec.ofNat 8 s.ctl.id := by rw [hn]; rfl
    rw [hsender, BitVec.toNat_ofNat]
    omega
  case state =>
    rw [hbody, readSender_healthBody, ownSenderState]
    split <;> simp_all
  case opinions => rw [hbody, readOpinions_healthBody]

/-- Settles O33: each field stands in a byte of its own or at its bits, and the laws bound what a byte must hold. -/
theorem digestReadsBackAsBuilt : Obligations.DigestReadsBackAsBuilt := by
  rintro s body hlaw hqueue hentries rfl
  obtain ⟨hstate, hsilenced, hoverrun, hlate, hdefaulted, htaken, hzero⟩ := digestFlags_fields s
  refine ⟨rfl, hstate, hsilenced, hoverrun, hlate, hdefaulted, htaken, hzero,
    timeBytes_toNat s.ctl.time, fun p => ?ports, pairField_digestBody s, fun c => ?classes, ?mux, ?peers,
    ⟨rfl, rfl, rfl, rfl, rfl⟩, ⟨rfl, rfl, rfl, rfl, rfl⟩, ⟨rfl, rfl, rfl, rfl⟩, ?verdicts,
    ⟨rfl, rfl, rfl, rfl, rfl⟩, ⟨rfl, fun _ => rfl⟩, rfl, rfl, rfl, rfl, rfl⟩
  case ports =>
    obtain ⟨hfirst, hscore, hscore', hpeak, hpeak'⟩ := byteAt_digestBody_port s p
    have hport := (s.ports.get p).state.code_lt
    have hcause := (s.ports.get p).cause.code_lt
    have hmax := (hlaw.ports p).score_le
    have hcount := (hlaw.lanes p).2
    rw [hfirst, hscore, hscore', hpeak, hpeak']
    refine ⟨?_, twoBytes_toNat (by omega), twoBytes_toNat (by omega)⟩
    rw [BitVec.toNat_ofNat]
    omega
  case classes =>
    have hstatus := (s.classes.get c).status.code_lt
    have hcurrent := currentCode_le (s.classes.get c).current
    rw [byteAt_digestBody_class, digestClass, BitVec.toNat_ofNat]
    omega
  case mux =>
    have hport := s.mux.port.code_lt
    have hbyte : byteAt (digestBody s) 35 =
        (BitVec.ofNat 8 (s.mux.queue.length * 16 + s.mux.port.code)).toNat := rfl
    rw [hbyte, BitVec.toNat_ofNat]
    omega
  case peers =>
    have hcounted := countedPeers_le s.view.entries
    have hbyte : byteAt (digestBody s) 36 = (BitVec.ofNat 8 (countedPeers s.view.entries)).toNat := rfl
    rw [hbyte, BitVec.toNat_ofNat]
    omega
  case verdicts =>
    rintro sw v rfl
    refine ⟨fun h => ?_, fun h => ?_, fun h => ?_⟩ <;> rw [verdictCode, h] <;> rfl

end Sys2Proof.Proofs
end

section
/-! PROOFS. The content of a CONFIG: how each field is read and clamped, and when the content is refused. -/

namespace Sys2Proof.Machine

theorem byteAt_lt (body : List Byte) (i : Nat) : byteAt body i < 256 := (body.getD i 0#8).isLt

theorem clamp_eq {lo hi : Nat} (h : lo ≤ hi) (v : Nat) : clamp lo hi v = max lo (min hi v) := by
  unfold clamp
  split
  · omega
  · split <;> omega

/-! ## The port map (R69) -/

theorem readConfig_portMap (body : List Byte) (p : PortId) :
    (readConfig body).portMap.get p = readPortMap (byteAt body p.val) := Four.get_build _ p

theorem readPorts_get (body : List Byte) (p : PortId) :
    (readPorts body).get p = readPortMap (byteAt body p.val) := Four.get_build _ p

theorem readPortMap_switch {b : Nat} (h : b < 256) : (readPortMap b).switch.val = b / 32 :=
  Nat.mod_eq_of_lt (show b / 32 < 8 by omega)

/-! ## EXPIRE (R150) -/

/-- EXPIRE is the least whole number of 100 ms that is neither less than the field nor less than FRESH. -/
theorem raiseExpire_least {fresh x : Nat} (hfresh : fresh ≤ 255) (hx : x ≤ 255) :
    x ≤ raiseExpire fresh x ∧ fresh * 10 ≤ raiseExpire fresh x * 100 ∧ raiseExpire fresh x ≤ 255 ∧
      ∀ y, x ≤ y → fresh * 10 ≤ y * 100 → raiseExpire fresh x ≤ y := by
  unfold raiseExpire
  split
  · exact ⟨by omega, by omega, by omega, fun y _ h => by omega⟩
  · exact ⟨le_rfl, by omega, hx, fun y h _ => h⟩

/-! ## The preference lists (R71) -/

theorem readConfig_list (body : List Byte) (c : ClassId) :
    (readConfig body).lists.get c = readList body c := Eight.get_build _ c

theorem readList_length (body : List Byte) (c : ClassId) :
    (readList body c).length = min 4 (listLength body c) := by
  rw [readList, List.length_take, min_comm]
  rfl

theorem readList_field {body : List Byte} {c : ClassId} {i : Nat} {p : PortId}
    (h : (readList body c)[i]? = some p) :
    p.val = byteAt body (24 + 2 * c.val) / 4 ^ (3 - i) % 4 := by
  rw [readList, List.getElem?_take] at h
  split at h
  · match i, h with
    | 0, h | 1, h | 2, h | 3, h =>
      cases h
      exact Nat.mod_mod _ 4
  · cases h

/-! ## Refusal (R149) -/

theorem configRefused_iff (body : List Byte) :
    configRefused body = true ↔
      (∃ c, 4 < listLength body c) ∨ (∃ c, ¬ (readList body c).Nodup) ∨
      (∃ c, ∃ p ∈ readList body c, ((readPorts body).get p).absent = true) ∨
      readThreshold body 5 < 16 ∨ 1008 < readThreshold body 5 ∨
      readThreshold body 5 < readThreshold body 7 + 16 ∨
      (∀ p, ((readPorts body).get p).absent = true) ∨ (∀ c, listLength body c = 0) := by
  simp [configRefused, or_assoc]

end Sys2Proof.Machine

namespace Sys2Proof.Proofs

open Sys2Proof.Machine

/-- Settles O60: each field by the way it is read, EXPIRE as the least value, and the seven cases of the refusal. -/
theorem configContentIsReadAndRefused : Obligations.ConfigContentIsReadAndRefused := by
  rintro body g rfl value
  have hclamp {lo hi : Nat} (h : lo ≤ hi) (v : Nat) : value lo hi v (clamp lo hi v) := clamp_eq h v
  refine ⟨fun p => ⟨?absent, fun _ => ⟨?switch, ?supervised⟩⟩, hclamp (by decide) _, hclamp (by decide) _,
    rfl, rfl, hclamp (by decide) _, hclamp (by decide) _, hclamp (by decide) _, hclamp (by decide) _,
    hclamp (by decide) _, hclamp (by decide) _, ?expire, rfl, rfl, rfl, hclamp (by decide) _,
    hclamp (by decide) _, hclamp (by decide) _, decide_eq_true_iff, fun c => ⟨?length, ?field⟩, ?refused⟩
  case absent | supervised =>
    rw [readConfig_portMap]
    exact decide_eq_true_iff
  case switch =>
    rw [readConfig_portMap]
    exact readPortMap_switch (byteAt_lt body p.val)
  case expire =>
    rintro x (hx : x = _)
    have hclamped : clamp 1 255 (byteAt body 15) = x := (clamp_eq (by decide) _).trans hx.symm
    have hfresh : (readConfig body).fresh = clamp 10 255 (byteAt body 14) := rfl
    have hexpire : (readConfig body).expire = raiseExpire (readConfig body).fresh x := hclamped ▸ rfl
    rw [hexpire]
    refine raiseExpire_least ?_ (by omega)
    rw [hfresh, clamp_eq (by decide)]
    omega
  case length =>
    rw [readConfig_list]
    exact readList_length body c
  case field =>
    intro i p h
    rw [readConfig_list] at h
    exact readList_field h
  case refused =>
    simp only [readConfig_list, readConfig_portMap, ← readPorts_get]
    exact configRefused_iff body

end Sys2Proof.Proofs
end

section
/-! PROOFS. Sending on the station bus: the attempt, the rival, the completion, and the marks and limits that end a
notice being followed. -/

namespace Sys2Proof.Machine

open Safety

variable {s : State}

/-! ## The attempt (R39, R54) -/

theorem busFree_iff : busFree s = true ↔
    s.bus.activity = .idle ∧ s.bus.wires.clockRuns = false ∧ s.bus.wires.dataLow = false ∧
      50 ≤ s.bus.quiet ∧ 50 ≤ s.bus.sinceEvent := by
  simp only [busFree, Wires.high, Bool.and_eq_true, Bool.not_eq_true', beq_iff_eq, decide_eq_true_eq,
    and_assoc]
  exact Iff.rfl

theorem exec_attempt (rival : Option Notice) {e : TxEntry} (hawake : awake s = true)
    (hfree : busFree s = true) (he : nextEntry s = some e) :
    exec (.transmissionAttempt rival) s = .next (meetRival (buildEntry s e) rival (startSending e s)) := by
  simp [exec, execTransmissionAttempt, hawake, hfree, he]

theorem exec_attempt_of_not_free (rival : Option Notice) (h : ¬ busFree s = true) :
    exec (.transmissionAttempt rival) s = .next s := by
  simp [exec, execTransmissionAttempt, h]

theorem exec_attempt_of_none (rival : Option Notice) (h : nextEntry s = none) :
    exec (.transmissionAttempt rival) s = .next s := by
  simp [exec, execTransmissionAttempt, h]

/-- A DIGEST is always eligible, a HEALTH under the gate once its gap is over. -/
theorem txEligible_iff (e : TxEntry) : txEligible s e = true ↔
    (e = .health → healthGate s = true ∧ ∀ u, s.bus.lastHealthEnd = some u → GapOver s u) := by
  cases e with
  | digest target body => simp [txEligible]
  | health =>
    simp only [txEligible, Bool.and_eq_true, healthGapOver_iff, true_implies]

theorem nextEntry_eq_some {e : TxEntry} {front back : List TxEntry}
    (hqueue : s.bus.queue = front ++ e :: back) (hfront : ∀ x ∈ front, ¬ txEligible s x = true)
    (he : txEligible s e = true) : nextEntry s = some e :=
  List.find?_eq_some_iff_append.mpr ⟨he, front, back, hqueue, fun x hx => by simpa using hfront x hx⟩

theorem nextEntry_eq_none (h : ∀ x ∈ s.bus.queue, ¬ txEligible s x = true) : nextEntry s = none :=
  List.find?_eq_none.mpr h

/-! ## Arbitration (R41) -/

theorem lossAt_self (bs : List Byte) : lossAt bs bs = none := by
  induction bs with
  | nil => rfl
  | cons b bs ih => simp [lossAt, ih]

/-- The first byte that differs decides, and the lower one wins. -/
theorem lossAt_append (common : List Byte) {a b : Byte} (as bs : List Byte) (h : a ≠ b) :
    lossAt (common ++ a :: as) (common ++ b :: bs) =
      if b.toNat < a.toNat then some common.length else none := by
  induction common with
  | nil => simp [lossAt, h]
  | cons c common ih =>
    simp only [List.cons_append, lossAt, if_true, ih]
    split <;> rfl

theorem buildEntry_sender (s : State) (e : TxEntry) : (buildEntry s e).header.sender = ownByte s := by
  cases e <;> rfl

theorem Notice.bytes_one (n : Notice) : n.bytes[1]? = some n.header.sender := rfl

/-- A rival that wins at the sender byte bears another id: its byte there is the lower one. -/
theorem sender_of_loss_at_sender {e : TxEntry} {rival : Notice} {a b : Byte} {as bs common : List Byte}
    (hown : (buildEntry s e).bytes = common ++ a :: as) (hrival : rival.bytes = common ++ b :: bs)
    (hlt : b.toNat < a.toNat) (hlen : common.length = 1) : rival.header.sender.toNat ≠ s.ctl.id := by
  have ha : (buildEntry s e).bytes[1]? = some a := by simp [hown, hlen]
  have hb : rival.bytes[1]? = some b := by simp [hrival, hlen]
  rw [Notice.bytes_one, buildEntry_sender] at ha
  rw [Notice.bytes_one] at hb
  cases ha
  cases hb
  intro hid
  rw [ownByte, ← hid] at hlt
  simp at hlt

theorem meetRival_of_loss {own rival : Notice} {i : Nat} (h : lossAt own.bytes rival.bytes = some i) :
    meetRival own (some rival) s = loseTo rival i s := by
  simp [meetRival, h]

theorem meetRival_of_no_loss {own rival : Notice} (h : lossAt own.bytes rival.bytes = none) :
    meetRival own (some rival) s =
      s.setBus { s.bus with wires := besideOwn own rival .whole s.bus.wires } := by
  simp [meetRival, h]

theorem loseTo_eq (winner : Notice) (i : Nat) (s : State) :
    loseTo winner i s =
      if 2 ≤ i ∧ winner.header.sender.toNat = s.ctl.id then
        silence (loseAttempt (stageAfterLoss winner i) s)
      else loseAttempt (stageAfterLoss winner i) s := by
  simp [loseTo]

theorem silence_of_heard (h : s.ctl.silenced = false) :
    silence s =
      { s with
        ctl := { s.ctl with silenced := true }
        beacon := .stopped
        bus := { s.bus with queue := s.bus.queue.filter fun e => !e.isHealth } } := by
  simp [silence, h]

theorem silence_of_silenced (h : s.ctl.silenced = true) : silence s = s := by
  simp [silence, h]

theorem besideOwn_whole_self (n : Notice) (w : Wires) :
    besideOwn n n .whole w = { foreign := true, clockRuns := true, dataLow := false } := if_pos rfl

theorem besideOwn_whole_of_ne {own n : Notice} (h : n.bytes ≠ own.bytes) (w : Wires) :
    besideOwn own n .whole w = quietWires := if_neg h

/-! ## Truncation, marks and the hold limit (R44, R47) -/

theorem exec_mark (m : Mark) (s : State) : exec (.markInsideNotice m) s = .next (markInside m s) := rfl

theorem holdOver_iff {age : Nat} (h : s.bus.hold = some age) : holdOver s = true ↔ 2000 ≤ age := by
  simp only [holdOver, h]
  exact decide_eq_true_iff

theorem dropTaken_of_taking {h : Header} (hstage : s.bus.activity = .receiving (.taking h true)) :
    dropTaken s = s.setBus { s.bus with slot := none } := by
  simp [dropTaken, drivesTakeSlot, hstage]

theorem dropTaken_of_not_taking (h : ∀ h, s.bus.activity ≠ .receiving (.taking h true)) :
    dropTaken s = s := by
  have hdrives : drivesTakeSlot s = false := by
    unfold drivesTakeSlot
    split
    · next h' taken hstage => cases taken with
      | false => rfl
      | true => exact absurd hstage (h h')
    · rfl
  simp [dropTaken, hdrives]

/-- What a truncation takes back: the notice in the slot, if its take slot has not ended. -/
theorem dropTaken_receiving {stage : Stage} {slot : Option Notice}
    (hstage : s.bus.activity = .receiving stage) (htaken : (∃ h, stage = .taking h true) → slot = none)
    (hkept : (∀ h, stage ≠ .taking h true) → slot = s.bus.slot) :
    dropTaken s = s.setBus { s.bus with slot := slot } := by
  by_cases h : ∃ h, stage = .taking h true
  · obtain ⟨h', rfl⟩ := h
    rw [dropTaken_of_taking hstage, htaken ⟨h', rfl⟩]
  · have hne : ∀ h, stage ≠ .taking h true := not_exists.mp h
    rw [dropTaken_of_not_taking, hkept hne]
    · rfl
    · intro h' hstage'
      rw [hstage] at hstage'
      exact hne h' (by injection hstage')

end Sys2Proof.Machine

namespace Sys2Proof.Proofs

open Sys2Proof.Machine Sys2Proof.Safety

/-- Settles O26: the first eligible entry is the one that the search of the queue finds. -/
theorem attemptSendsFirstEligibleEntry : Obligations.AttemptSendsFirstEligibleEntry := by
  intro s hawake
  refine ⟨fun hidle hclock hdata hquiet hsince => ⟨?sends, ?none⟩, ?busy⟩
  case sends =>
    intro e front back hqueue hfront he
    have hnext : nextEntry s = some e :=
      nextEntry_eq_some hqueue (fun x hx => by
        obtain ⟨rfl, hno⟩ := hfront x hx
        rw [txEligible_iff]
        exact fun h => hno (h rfl)) ((txEligible_iff e).mpr he)
    rw [exec_attempt none hawake (busFree_iff.mpr ⟨hidle, hclock, hdata, hquiet, hsince⟩) hnext]
    rfl
  case none =>
    intro hnone
    refine exec_attempt_of_none none (nextEntry_eq_none fun x hx => ?_)
    obtain ⟨rfl, hno⟩ := hnone x hx
    rw [txEligible_iff]
    exact fun h => hno (h rfl)
  case busy =>
    intro hbusy
    refine exec_attempt_of_not_free none ?_
    rw [busFree_iff]
    rintro ⟨hidle, hclock, hdata, hquiet, hsince⟩
    simp [hidle, hclock, hdata] at hbusy
    omega

/-- Settles O27: the first byte that differs decides by `lossAt`, and the loser is left as `loseTo` leaves it. -/
theorem attemptLosesToLowerNotice : Obligations.AttemptLosesToLowerNotice := by
  intro s e rival hawake hidle hclock hdata hquiet hsince he hsilenced
  have hexec (r : Option Notice) := exec_attempt r hawake
    (busFree_iff.mpr ⟨hidle, hclock, hdata, hquiet, hsince⟩) he
  refine ⟨?loses, ?wins, ?same⟩
  case loses =>
    intro common a b as bs hown hrival hlt
    have hne : a ≠ b := by rintro rfl; exact lt_irrefl _ hlt
    have hloss : lossAt (buildEntry s e).bytes rival.bytes = some common.length := by
      rw [hown, hrival, lossAt_append common as bs hne, if_pos hlt]
    rw [hexec, meetRival_of_loss hloss]
    have hclash : (2 ≤ common.length ∧ rival.header.sender.toNat = s.ctl.id) ↔
        (common ≠ [] ∧ rival.header.sender.toNat = s.ctl.id) := by
      refine and_congr_left fun hid => ⟨fun h => ?_, fun h => ?_⟩
      · rintro rfl
        simp at h
      · have hpos := List.length_pos_iff.mpr h
        have hone : common.length ≠ 1 := fun hlen =>
          sender_of_loss_at_sender hown hrival hlt hlen hid
        omega
    have hstage : stageAfterLoss rival common.length =
        if common = [] then .contested
        else if common.length < 4 then .opened else .headed rival.header := by
      simp [stageAfterLoss]
    have hdue : e = .health →
        (if sendingHealth (startSending e s) then false else s.bus.dueMark) = false := by
      rintro rfl
      rfl
    refine ⟨_, rfl, ?_⟩
    simp only [loseTo_eq]
    rw [show (startSending e s).ctl = s.ctl from rfl]
    by_cases h : 2 ≤ common.length ∧ rival.header.sender.toNat = s.ctl.id
    · rw [if_pos h, silence_of_heard (s := loseAttempt _ (startSending e s)) hsilenced]
      exact ⟨congrArg _ hstage, iff_of_true rfl (hclash.mp h), fun h => Bool.noConfusion h, fun _ => rfl,
        rfl, rfl, rfl, hdue, rfl, rfl, rfl, rfl, rfl, rfl⟩
    · have hopen : ¬ (loseAttempt (stageAfterLoss rival common.length) (startSending e s)).ctl.silenced = true := by
        simpa [loseAttempt, startSending] using hsilenced
      rw [if_neg h]
      refine ⟨congrArg _ hstage, ?_, fun _ => rfl, ?_, rfl, rfl, rfl, hdue, rfl, rfl, rfl, rfl, rfl, rfl⟩
      · rw [← hclash, iff_false_right h]
        exact hopen
      · exact fun hs' => absurd hs' hopen
  case wins =>
    intro common a b as bs hown hrival hlt
    have hne : a ≠ b := by rintro rfl; exact lt_irrefl _ hlt
    have hloss : lossAt (buildEntry s e).bytes rival.bytes = none := by
      rw [hown, hrival, lossAt_append common as bs hne, if_neg (by omega)]
    have hbytes : rival.bytes ≠ (buildEntry s e).bytes := by
      rw [hown, hrival]
      simpa using fun h _ => hne h.symm
    rw [hexec, hexec, meetRival_of_no_loss hloss, besideOwn_whole_of_ne hbytes]
    rfl
  case same =>
    rintro rfl
    rw [hexec, meetRival_of_no_loss (lossAt_self _), besideOwn_whole_self]
    rfl

/-- Settles O28: each entry by the queue without its kind. -/
theorem transmissionCompletes : Obligations.TransmissionCompletes := by
  intro s taken n hawake
  refine ⟨fun hactivity => ?health, fun target body hactivity => ?digest⟩
  case health =>
    have hexec : exec (.transmissionComplete taken) s = .next (completeHealth taken s) := by
      simp [exec, execTransmissionComplete, hawake, hactivity]
    have hqueue : leaveQueue .health s.bus.queue = s.bus.queue.filter fun e => !e.isHealth :=
      List.filter_congr fun e _ => by cases e <;> rfl
    rw [hexec, completeHealth, hqueue]
    rfl
  case digest =>
    have hexec : exec (.transmissionComplete taken) s =
        .next (completeDigest (.digest target body) s) := by
      simp [exec, execTransmissionComplete, hawake, hactivity]
    have hqueue : leaveQueue (.digest target body) s.bus.queue = s.bus.queue.filter TxEntry.isHealth :=
      List.filter_congr fun e _ => by cases e <;> rfl
    rw [hexec, completeDigest, hqueue]
    rfl

/-- Settles O37: by the activity of the station, and the age of the hold. -/
theorem truncationAndHoldLimitReleaseNotice : Obligations.TruncationAndHoldLimitReleaseNotice := by
  intro s hawake
  refine ⟨fun stage slot hstage htaken hkept => ?receiving, fun e n hsending => ?sending,
    fun hidle => ?idle, fun age hage => ⟨fun hpassed => ?ends, fun hearly => ?early⟩⟩
  case receiving =>
    have hdrop := dropTaken_receiving hstage htaken hkept
    refine ⟨?_, ?_, ?_⟩
    · have hexec : exec .truncatedNotice s = .next (clockHigh s.bus.wires (truncate s)) := by
        simp [exec, execTruncatedNotice, hawake, hstage]
      rw [hexec, truncate, hdrop]
      rfl
    · have hmark : markInside .stop s = truncate s := by simp [markInside, hawake, stopMarkSeen, hstage]
      rw [exec_mark, hmark, truncate, hdrop]
      rfl
    · have hmark : markInside .start s = reopen s := by simp [markInside, hawake, startMarkSeen, hstage]
      rw [exec_mark, hmark, reopen, hdrop]
      rfl
  case sending =>
    have hmark : markInside .start s = loseAttempt .opened s := by
      simp [markInside, hawake, startMarkSeen, hsending]
    have hhealth : sendingHealth s = decide (e = .health) := by
      cases e <;> simp [sendingHealth, hsending, TxEntry.isHealth]
    rw [exec_mark, hmark, loseAttempt, hhealth]
    simp only [decide_eq_true_eq]
    rfl
  case idle =>
    refine ⟨?_, ?_, ?_⟩
    · have hmark : markInside .start s = openStart s := by
        simp [markInside, hawake, startMarkSeen, hidle]
      rw [exec_mark, hmark]
      rfl
    · have hmark : markInside .stop s = passUnfollowed quietWires s := by
        simp [markInside, hawake, stopMarkSeen, hidle]
      rw [exec_mark, hmark]
      rfl
    · have hexec : exec .truncatedNotice s = .next (clockHigh s.bus.wires s) := by
        simp [exec, execTruncatedNotice, hawake, hidle]
      rw [hexec]
      rfl
  case ends =>
    have hdue : holdOver s = true := (holdOver_iff hage).mpr hpassed
    simp only [exec, execHoldLimitExpiry, hawake, hdue]
    rfl
  case early =>
    have hdue : holdOver s = false := by
      simpa [← Bool.not_eq_true, holdOver_iff hage] using hearly
    simp [exec, execHoldLimitExpiry, hdue]

end Sys2Proof.Proofs
end

section
/-! PROOFS. Following a notice: what the whole of one does at a station that is IDLE or has followed it to its hold slot,
by the outcome of R48. -/

namespace Sys2Proof.Machine

open Safety

variable {s : State} {n : Notice}

theorem exec_noticeRow {row : NoticeSpan → Instr} (h : IsNoticeRow n row) (span : NoticeSpan) (s : State) :
    exec (row span) s = .next (followNotice n span s) := by
  rcases h with rfl | rfl | rfl | rfl | rfl | rfl <;> rfl

theorem followNotice_of_followed (span : NoticeSpan) (hawake : awake s = true)
    (h : missedStart span s = false) : followNotice n span s = seeWires n span (followSpan n span s) := by
  simp [followNotice, hawake, h]

theorem followNotice_of_missed (span : NoticeSpan) (hawake : awake s = true)
    (h : missedStart span s = true) : followNotice n span s = passUnfollowed (spanWires n span) s := by
  simp [followNotice, hawake, h]

theorem followNotice_of_resetting (span : NoticeSpan) (h : s.ctl.state = .resetting) :
    followNotice n span s = passUnfollowed (spanWires n span) s := by
  simp [followNotice, not_awake_of_resetting h, h]

theorem missedStart_of_busy (span : NoticeSpan) (h : s.bus.activity ≠ .idle) :
    missedStart span s = false := by
  simp [missedStart, h]

theorem seeWires_of_idle (span : NoticeSpan) (h : s.bus.activity = .idle) : seeWires n span s = s := by
  simp [seeWires, h]

theorem seeWires_of_receiving (span : NoticeSpan) {stage : Stage} (h : s.bus.activity = .receiving stage) :
    seeWires n span s =
      s.setBus
        { s.bus with
          wires := { s.bus.wires with clockRuns := clockAfter span, dataLow := dataAfter n span } } := by
  simp [seeWires, h]

theorem spanWires_foreign (n : Notice) (span : NoticeSpan) :
    (spanWires n span).foreign = true ↔ ¬(span = .whole ∨ span = .stopMark) := by
  cases span <;> simp [spanWires, quietWires]

/-- A part that is not followed leaves the lines as its own, and a stop mark begins the time of R39 anew. -/
theorem passUnfollowed_spanWires (n : Notice) (span : NoticeSpan) (s : State) :
    passUnfollowed (spanWires n span) s =
      { s with
        bus := { s.bus with
          quiet := 0
          sinceEvent := if span = .whole ∨ span = .stopMark then 0 else s.bus.sinceEvent
          wires := spanWires n span } } := by
  simp only [passUnfollowed, spanWires_foreign, ite_not]
  rfl

/-! ## To the hold slot (R43, R44) -/

/-- The station has followed the header of `n` and is at its hold slot, holding or not. -/
def atHoldSlot (n : Notice) (hold : Option Nat) (s : State) : State :=
  s.setBus
    { s.bus with
      activity := .receiving (.headed n.header), quiet := 0, wires := markWires, hold := hold }

/-- The hold that the header of `n` begins (R44). -/
def holdFor (s : State) (n : Notice) : Option Nat :=
  if relevant s.ctl.id n.header && s.bus.slot.isSome && holdEnabled s then some 0 else none

/-- What follows the hold slot: the end of the notice, its take slot and its stop mark. -/
def passRest (n : Notice) (s : State) : State :=
  passStop n.header (closeNotice n.header (endNotice n s))

theorem passHeader_openStart (s : State) :
    passHeader n (openStart s) = atHoldSlot n (holdFor s n) s := rfl

theorem meetNotice_of_idle (first last : Nat) (h : s.bus.activity = .idle) :
    meetNotice n first last s = openStart s := by
  simp [meetNotice, h]

theorem meetNotice_of_receiving (first last : Nat) {stage : Stage}
    (h : s.bus.activity = .receiving stage) : meetNotice n first last s = s := by
  simp [meetNotice, h]

theorem followSpan_whole_of_idle (h : s.bus.activity = .idle) :
    followSpan n .whole s = passRest n (atHoldSlot n (holdFor s n) s) := by
  simp only [followSpan, meetNotice_of_idle 0 _ h, passHeader_openStart]
  rfl

theorem followSpan_whole_of_headed (h : s.bus.activity = .receiving (.headed n.header)) :
    followSpan n .whole s = passRest n s := by
  have hsender : passSender n s = s := by simp [passSender, h]
  have hhold : openHoldSlot n.header s = s := by simp [openHoldSlot, h]
  simp only [followSpan, meetNotice_of_receiving 0 _ h, passHeader, hsender, hhold]
  rfl

/-! ## From the hold slot to the stop mark (R47, R48, R51) -/

section Rest

variable {u : State} (hhead : u.bus.activity = .receiving (.headed n.header))
include hhead

theorem endNotice_of_held (hhold : u.bus.hold ≠ none) : endNotice n u = u := by
  simp [endNotice, hhead, hhold]

theorem passRest_of_held (hhold : u.bus.hold ≠ none) : passRest n u = u := by
  simp [passRest, endNotice_of_held hhead hhold, closeNotice, passStop, hhead]

theorem endNotice_of_truncated (hhold : u.bus.hold = none) (hform : n.header.kindInForm.isSome = true)
    (hshort : n.complete = false) : endNotice n u = toIdle u := by
  simp [endNotice, hhead, hhold, hform, hshort]

theorem passRest_of_truncated (hhold : u.bus.hold = none) (hform : n.header.kindInForm.isSome = true)
    (hshort : n.complete = false) :
    passRest n u = u.setBus (passed u.bus u.bus.takeDriven) := by
  rw [passRest, endNotice_of_truncated hhead hhold hform hshort]
  rfl

theorem endNotice_of_outcome (hhold : u.bus.hold = none)
    (hlong : n.header.kindInForm = none ∨ n.complete = true) :
    endNotice n u =
      enterTakeSlot n.header (noticeOutcome u n == .taken) (settleNotice n (noticeOutcome u n) u) := by
  have hlong : (n.header.kindInForm.isSome && !n.complete) = false := by
    rcases hlong with h | h <;> simp [h]
  simp [endNotice, hhead, hhold, hlong]

/-- A notice that is not taken does what its outcome does, and is followed to its stop mark. -/
theorem passRest_of_outcome {o : NoticeOutcome} (hhold : u.bus.hold = none)
    (hlong : n.header.kindInForm = none ∨ n.complete = true) (ho : noticeOutcome u n = o)
    (hno : o ≠ .taken) :
    passRest n u = (settleNotice n o u).setBus (passed (settleNotice n o u).bus false) := by
  have htaken : (o == .taken) = false := by simpa using hno
  rw [passRest, endNotice_of_outcome hhead hhold hlong, ho, htaken]
  simp [enterTakeSlot, closeNotice, passStop, toIdle, passed, State.setBus]

/-- The take slot of a notice that is taken has passed. -/
theorem closeNotice_of_taken (hhold : u.bus.hold = none) (hlong : n.complete = true)
    (ho : noticeOutcome u n = .taken) :
    closeNotice n.header (endNotice n u) =
      handOver n ((storeNotice n u).setBus
        { (storeNotice n u).bus with activity := .receiving (.closing n.header), takeDriven := true }) := by
  have hslot : (storeNotice n u).bus.slot = some n := by rw [storeNotice_bus]
  rw [endNotice_of_outcome hhead hhold (.inr hlong), ho]
  simp only [enterTakeSlot, closeNotice, settleNotice, State.setBus_bus, beq_self_eq_true, if_true, hslot]
  rfl

/-- A HEALTH that is taken stays in the slot. -/
theorem passRest_of_health (hhold : u.bus.hold = none) (hlong : n.complete = true)
    (ho : noticeOutcome u n = .taken) (hkind : readKind n.header.kind = some .health) :
    passRest n u = u.setBus { passed u.bus true with slot := some n } := by
  rw [passRest, closeNotice_of_taken hhead hhold hlong ho]
  simp [handOver, hkind, storeNotice, passStop, toIdle, passed, State.setBus]

end Rest

/-! ## The outcome of a notice of right form (R48, R49) -/

theorem readKind_of_form {h : Header} {k : NoticeKind} (hform : h.kindInForm = some k) :
    readKind h.kind = some k := by
  unfold Header.kindInForm at hform
  split at hform
  · next k' hk =>
    split at hform
    · cases hform
      exact hk
    · cases hform
  · cases hform

theorem noticeOutcome_of_form {k : NoticeKind} (hform : n.header.kindInForm = some k)
    (hlong : n.complete = true) (hcheck : n.checkRight = true) (u : State) :
    noticeOutcome u n =
      if n.header.sender.toNat = u.ctl.id then .clash
      else if relevant u.ctl.id n.header = true then
        (acceptance u n k).getD (if u.bus.slot.isSome then .overrun else .taken)
      else .ignored := by
  simp only [noticeOutcome, hform, hlong, hcheck, Bool.not_true, Bool.false_eq_true, if_false]
  split
  · rfl
  · cases hrel : relevant u.ctl.id n.header with
    | true => cases hacc : acceptance u n k <;> simp
    | false => simp

theorem relevant_of_targeted {k : NoticeKind} (own : Nat) (hform : n.header.kindInForm = some k)
    (hk : k = .restart ∨ k = .config ∨ k = .query) :
    relevant own n.header = true ↔ n.header.target.toNat = own ∨ n.header.target.toNat = 31 := by
  have hall : allStations = 31 := rfl
  rcases hk with rfl | rfl | rfl <;> simp [relevant, hform, ← hall]

theorem relevant_of_health (own : Nat) (hform : n.header.kindInForm = some .health) :
    relevant own n.header = true ↔ n.header.sender.toNat ≠ own := by
  simp [relevant, hform]

theorem relevant_of_digest (own : Nat) (hform : n.header.kindInForm = some .digest) :
    relevant own n.header = false := by
  simp [relevant, hform]

/-! ## The whole of a notice -/

theorem followNotice_whole (hawake : awake s = true) (hidle : s.bus.activity = .idle)
    (hquiet : s.bus.wires.foreign = false) :
    followNotice n .whole s = seeWires n .whole (passRest n (atHoldSlot n (holdFor s n) s)) := by
  have hfollowed : missedStart .whole s = false := by simp [missedStart, hquiet]
  rw [followNotice_of_followed .whole hawake hfollowed, followSpan_whole_of_idle hidle]

theorem followNotice_arrives {k : NoticeKind} (h : Arrives s n k) :
    followNotice n .whole s = seeWires n .whole (passRest n (atHoldSlot n (holdFor s n) s)) :=
  followNotice_whole h.awake h.idle h.quiet

theorem followNotice_resumes {k : NoticeKind} (h : Resumes s n k) :
    followNotice n .whole s = seeWires n .whole (passRest n s) := by
  have hbusy : s.bus.activity ≠ .idle := by simp [h.headed]
  rw [followNotice_of_followed .whole h.awake (missedStart_of_busy .whole hbusy),
    followSpan_whole_of_headed h.headed]

theorem holdFor_none (h : relevant s.ctl.id n.header = false ∨ s.bus.slot = none ∨ holdEnabled s = false) :
    holdFor s n = none := by
  rcases h with h | h | h <;> simp [holdFor, h]

/-- A relevant notice is held at its hold slot while the receive slot is occupied (R44). -/
theorem followNotice_held {k : NoticeKind} (h : Arrives s n k) (hrel : relevant s.ctl.id n.header = true)
    (hslot : s.bus.slot.isSome = true) (hen : holdEnabled s = true) :
    followNotice n .whole s =
      { s with
        bus := { s.bus with
          activity := .receiving (.headed n.header), quiet := 0
          wires := { foreign := false, clockRuns := true, dataLow := false }
          hold := some 0 } } := by
  have hhold : holdFor s n = some 0 := by simp [holdFor, hrel, hslot, hen]
  have hhead : (atHoldSlot n (some 0) s).bus.activity = .receiving (.headed n.header) := rfl
  rw [followNotice_arrives h, hhold, passRest_of_held hhead (by simp [atHoldSlot]),
    seeWires_of_receiving .whole hhead]
  rfl

theorem followNotice_whole_of_outcome {o : NoticeOutcome} (hawake : awake s = true)
    (hidle : s.bus.activity = .idle) (hquiet : s.bus.wires.foreign = false)
    (hlong : n.header.kindInForm = none ∨ n.complete = true) (hhold : holdFor s n = none)
    (ho : noticeOutcome (atHoldSlot n none s) n = o) (hno : o ≠ .taken) :
    followNotice n .whole s =
      (settleNotice n o (atHoldSlot n none s)).setBus
        (passed (settleNotice n o (atHoldSlot n none s)).bus false) := by
  rw [followNotice_whole hawake hidle hquiet, hhold,
    passRest_of_outcome (u := atHoldSlot n none s) rfl rfl hlong ho hno]
  exact seeWires_of_idle .whole rfl

/-- A notice that is not taken leaves what its outcome leaves, with the station IDLE. -/
theorem followNotice_of_outcome {k : NoticeKind} {o : NoticeOutcome} (h : Arrives s n k)
    (hhold : holdFor s n = none) (ho : noticeOutcome (atHoldSlot n none s) n = o) (hno : o ≠ .taken) :
    followNotice n .whole s =
      (settleNotice n o (atHoldSlot n none s)).setBus
        (passed (settleNotice n o (atHoldSlot n none s)).bus false) :=
  followNotice_whole_of_outcome h.awake h.idle h.quiet (.inr h.complete) hhold ho hno

theorem followNotice_resumes_of_outcome {k : NoticeKind} {o : NoticeOutcome} (h : Resumes s n k)
    (ho : noticeOutcome s n = o) (hno : o ≠ .taken) :
    followNotice n .whole s =
      (settleNotice n o s).setBus (passed (settleNotice n o s).bus false) := by
  rw [followNotice_resumes h, passRest_of_outcome h.headed h.released (.inr h.complete) ho hno]
  exact seeWires_of_idle .whole rfl

theorem hasDigest_iff {s : State} :
    hasDigest s = true ↔ ∃ target body, TxEntry.digest target body ∈ s.bus.queue := by
  unfold hasDigest
  rw [List.any_eq_true]
  constructor
  · rintro ⟨e, he, hdigest⟩
    cases e with
    | health => cases hdigest
    | digest target body => exact ⟨target, body, he⟩
  · rintro ⟨target, body, h⟩
    exact ⟨_, h, rfl⟩

theorem hasDigest_of_health {s : State} (h : ∀ e ∈ s.bus.queue, e = .health) : hasDigest s = false := by
  rw [← Bool.not_eq_true, hasDigest_iff]
  rintro ⟨target, body, hmem⟩
  cases h _ hmem

/-! ## A notice of right form that is taken -/

/-- A notice of another kind than HEALTH that is taken is handed over, and its stop mark passes (R51). -/
theorem followNotice_handed {k : NoticeKind} (h : Arrives s n k) (hslot : s.bus.slot = none)
    (ho : noticeOutcome (atHoldSlot n none s) n = .taken) :
    followNotice n .whole s =
      seeWires n .whole (passStop n.header (handOver n
        ((storeNotice n (atHoldSlot n none s)).setBus
          { (storeNotice n (atHoldSlot n none s)).bus with
            activity := .receiving (.closing n.header), takeDriven := true }))) := by
  rw [followNotice_arrives h, holdFor_none (.inr (.inl hslot)), passRest,
    closeNotice_of_taken (u := atHoldSlot n none s) rfl rfl h.complete ho]

theorem storeNotice_of_not_config (h : readKind n.header.kind ≠ some .config) :
    storeNotice n s = s.setBus { s.bus with slot := some n } := by
  simp [storeNotice, h]

/-! ## The start of a warm reset (R157) -/

theorem resetPlacement_warmReset (r : ClassRecord) : ResetPlacement r r.warmReset := by
  have hbarred : ∀ p, (Four.all none : Four (Option Timer)).get p = none := fun p => Four.get_all none p
  cases hstatus : r.status with
  | stranded =>
    cases hcurrent : r.current <;>
      simp [ResetPlacement, ClassRecord.warmReset, ClassRecord.unplace, hstatus, hcurrent, hbarred]
  | unused | unplaced | placed | moving =>
    simp [ResetPlacement, ClassRecord.warmReset, ClassRecord.unplace, hstatus, hbarred]

theorem released_eq (s : State) :
    s.bus.released = { s.bus.wires with foreign := s.bus.wires.foreign || isReceiving s } := by
  cases hactivity : s.bus.activity <;> simp [Bus.released, isReceiving, hactivity]

theorem warmResetOf_warmReset (s : State) : WarmResetOf s (warmReset s) where
  lanes p := Four.get_map _ _ p
  epoch := rfl
  ports p := by
    refine (Four.get_map _ _ p).trans ?_
    unfold PortRecord.warmReset
    split <;> rfl
  opinions sw := Eight.get_build _ sw
  bus := by rw [← released_eq]; rfl
  beacon := rfl
  view := rfl
  switches sw := Eight.get_all _ sw
  recompute := ⟨rfl, rfl⟩
  classes c := by
    rw [show (warmReset s).classes.get c = (s.classes.get c).warmReset from Eight.get_map _ _ c]
    exact resetPlacement_warmReset _
  mux := by
    unfold warmReset Mux.afterReset portFromMrdy
    rfl
  ctl := rfl
  pending := rfl

end Sys2Proof.Machine

namespace Sys2Proof.Proofs

open Sys2Proof.Machine Sys2Proof.Safety

/-- Settles O31: the three outcomes refused, late and overrun. -/
theorem configTurnedAway : Obligations.ConfigTurnedAway := by
  refine ⟨fun s n harr hsender htarget hslot => ⟨fun hstate hrefused => ?refused, fun hstate => ?late⟩,
    fun s n hres hsender htarget hslot hstate hpass => ?lost⟩
  case refused =>
    have hrel := (relevant_of_targeted s.ctl.id harr.form (.inr (.inl rfl))).mpr htarget
    have ho : noticeOutcome (atHoldSlot n none s) n = .refused := by
      simp [noticeOutcome_of_form harr.form harr.complete harr.check, atHoldSlot, hsender, hrel, acceptance,
        hstate, hrefused]
    rw [exec_noticeRow (.inr (.inl rfl)),
      followNotice_of_outcome harr (holdFor_none (.inr (.inl hslot))) ho (by decide)]
    rfl
  case late =>
    have hrel := (relevant_of_targeted s.ctl.id harr.form (.inr (.inl rfl))).mpr htarget
    have hstate : s.ctl.state ≠ .unconfigured := by rcases hstate with h | h <;> simp [h]
    have ho : noticeOutcome (atHoldSlot n none s) n = .late := by
      simp [noticeOutcome_of_form harr.form harr.complete harr.check, atHoldSlot, hsender, hrel, acceptance,
        hstate]
    rw [exec_noticeRow (.inr (.inl rfl)),
      followNotice_of_outcome harr (holdFor_none (.inr (.inl hslot))) ho (by decide)]
    rfl
  case lost =>
    have hrel := (relevant_of_targeted s.ctl.id hres.form (.inr (.inl rfl))).mpr htarget
    have ho : noticeOutcome s n = .overrun := by
      simp [noticeOutcome_of_form hres.form hres.complete hres.check, hsender, hrel, acceptance, hstate,
        hpass, hslot]
    rw [exec_noticeRow (.inr (.inl rfl)), followNotice_resumes_of_outcome hres ho (by decide)]
    rfl

/-- Settles O29: a RESTART that is taken is handed over to the station controller, which begins the warm reset. -/
theorem restartBeginsWarmReset : Obligations.RestartBeginsWarmReset := by
  intro s n harr hsender
  have hkind := readKind_of_form harr.form
  have hrel := relevant_of_targeted s.ctl.id harr.form (.inl rfl)
  refine ⟨fun hslot htarget => ?taken, fun hown hall => ?ignored, fun hslot hen htarget => ?lost⟩ <;>
    rw [exec_noticeRow (.inl rfl)]
  case taken =>
    have ho : noticeOutcome (atHoldSlot n none s) n = .taken := by
      simp [noticeOutcome_of_form harr.form harr.complete harr.check, atHoldSlot, hsender, hrel.mpr htarget,
        acceptance, hslot]
    refine ⟨warmReset { s with bus := { s.bus with wires := quietWires } }, ?_, warmResetOf_warmReset _⟩
    rw [followNotice_handed harr hslot ho, storeNotice_of_not_config (by simp [hkind])]
    simp only [handOver, hkind]
    have hreleased : Bus.released { s.bus with wires := quietWires } = quietWires := by
      simp [Bus.released, harr.idle]
    rw [warmReset, warmReset, hreleased]
    rfl
  case ignored =>
    have hno : relevant s.ctl.id n.header = false := by simp [← Bool.not_eq_true, hrel, hown, hall]
    have ho : noticeOutcome (atHoldSlot n none s) n = .ignored := by
      simp [noticeOutcome_of_form harr.form harr.complete harr.check, atHoldSlot, hsender, hno]
    rw [followNotice_of_outcome harr (holdFor_none (.inl hno)) ho (by decide)]
    rfl
  case lost =>
    have ho : noticeOutcome (atHoldSlot n none s) n = .overrun := by
      simp [noticeOutcome_of_form harr.form harr.complete harr.check, atHoldSlot, hsender, hrel.mpr htarget,
        acceptance, hslot]
    rw [followNotice_of_outcome harr (holdFor_none (.inr (.inr hen))) ho (by decide)]
    rfl

/-- Settles O32: a QUERY that is taken is answered by `takeSnapshot`. -/
theorem queryQueuesSnapshot : Obligations.QueryQueuesSnapshot := by
  intro s n harr hsender
  have hkind := readKind_of_form harr.form
  have hrel := relevant_of_targeted s.ctl.id harr.form (.inr (.inr rfl))
  have hdigest : hasDigest (atHoldSlot n none s) = hasDigest s := rfl
  refine ⟨fun hslot htarget hqueue => ?taken, fun hslot hno => ?refused,
    fun hslot hen htarget hqueue => ?lost⟩ <;> rw [exec_noticeRow (.inr (.inr (.inl rfl)))]
  case taken =>
    have ho : noticeOutcome (atHoldSlot n none s) n = .taken := by
      rw [noticeOutcome_of_form harr.form harr.complete harr.check]
      simp [acceptance, hdigest, hasDigest_of_health hqueue]
      simp [atHoldSlot, hsender, hrel.mpr (.inl htarget), htarget, hslot]
    rw [followNotice_handed harr hslot ho, storeNotice_of_not_config (by simp [hkind])]
    simp only [handOver, hkind]
    simp only [takeSnapshot, passStop, toIdle, seeWires, atHoldSlot, State.setBus, passed, if_true, hslot]
    rfl
  case refused =>
    have hno : ¬ (n.header.target.toNat = s.ctl.id ∧ hasDigest s = false) := by
      rintro ⟨htarget, hnone⟩
      rcases hno with hmem | hother
      · rw [hasDigest_iff.mpr hmem] at hnone
        cases hnone
      · exact hother htarget
    rw [← hdigest] at hno
    by_cases hr : relevant s.ctl.id n.header = true
    · have ho : noticeOutcome (atHoldSlot n none s) n = .refused := by
        rw [noticeOutcome_of_form harr.form harr.complete harr.check]
        simp [acceptance]
        simp [atHoldSlot, hsender, hr] at hno ⊢
        grind
      rw [followNotice_of_outcome harr (holdFor_none (.inr (.inl hslot))) ho (by decide)]
      rfl
    · have ho : noticeOutcome (atHoldSlot n none s) n = .ignored := by
        simp [noticeOutcome_of_form harr.form harr.complete harr.check, atHoldSlot, hsender, hr]
      rw [followNotice_of_outcome harr (holdFor_none (.inr (.inl hslot))) ho (by decide)]
      rfl
  case lost =>
    have ho : noticeOutcome (atHoldSlot n none s) n = .overrun := by
      rw [noticeOutcome_of_form harr.form harr.complete harr.check]
      simp [acceptance, hdigest, hasDigest_of_health hqueue]
      simp [atHoldSlot, hsender, hrel.mpr (.inl htarget), htarget, hslot]
    rw [followNotice_of_outcome harr (holdFor_none (.inr (.inr hen))) ho (by decide)]
    rfl

/-- Settles O35: a DIGEST is relevant to no station, and a notice with the own id is a clash. -/
theorem digestPassesOrRevealsClash : Obligations.DigestPassesOrRevealsClash := by
  refine ⟨fun s n harr hsender => ?passes, fun s n k row harr hrow hsender hnohold => ?clash,
    fun s n row hawake hrow hcontested hsilenced => ?contested⟩
  case passes =>
    have hrel := relevant_of_digest s.ctl.id harr.form
    have ho : noticeOutcome (atHoldSlot n none s) n = .ignored := by
      simp [noticeOutcome_of_form harr.form harr.complete harr.check, atHoldSlot, hsender, hrel]
    rw [exec_noticeRow (.inr (.inr (.inr (.inr (.inl rfl))))),
      followNotice_of_outcome harr (holdFor_none (.inl hrel)) ho (by decide)]
    rfl
  case clash =>
    have hhold : holdFor s n = none := by
      rcases hnohold with rfl | rfl | hslot | hen
      · exact holdFor_none (.inl (relevant_of_digest s.ctl.id harr.form))
      · refine holdFor_none (.inl ?_)
        rw [← Bool.not_eq_true, relevant_of_health s.ctl.id harr.form]
        exact not_not.mpr hsender
      · exact holdFor_none (.inr (.inl hslot))
      · exact holdFor_none (.inr (.inr hen))
    have ho : noticeOutcome (atHoldSlot n none s) n = .clash := by
      simp [noticeOutcome_of_form harr.form harr.complete harr.check, atHoldSlot, hsender]
    have hsettle : settleNotice n .clash (atHoldSlot n none s) = silence (atHoldSlot n none s) := rfl
    rw [exec_noticeRow hrow, followNotice_of_outcome harr hhold ho (by decide), hsettle]
    constructor
    · intro hsilenced
      rw [silence_of_heard (s := atHoldSlot n none s) hsilenced]
      rfl
    · intro hsilenced
      rw [silence_of_silenced (s := atHoldSlot n none s) hsilenced]
      rfl
  case contested =>
    have hbusy : s.bus.activity ≠ .idle := by simp [hcontested]
    have hsender : followSpan n .sender s =
        if n.header.sender.toNat = s.ctl.id then
          silence (s.setBus { s.bus with activity := .receiving .opened })
        else s.setBus { s.bus with activity := .receiving .opened } := by
      simp only [followSpan, meetNotice_of_receiving 0 2 hcontested, passSender, hcontested]
    have hlow : lastBitLow n.header.sender = decide (n.header.sender.toNat % 2 = 0) := rfl
    rw [exec_noticeRow hrow, followNotice_of_followed .sender hawake (missedStart_of_busy .sender hbusy),
      hsender, ← hlow]
    constructor
    · intro hother
      rw [if_neg hother, seeWires_of_receiving .sender rfl]
      rfl
    · intro hown
      rw [if_pos hown,
        silence_of_heard (s := s.setBus { s.bus with activity := .receiving .opened }) hsilenced,
        seeWires_of_receiving .sender rfl]
      rfl

/-- Settles O36: the outcome discarded changes nothing, and a part that is not followed leaves its own lines. -/
theorem faultyNoticeIsDiscarded : Obligations.FaultyNoticeIsDiscarded := by
  intro s n hawake hidle
  have hrow : IsNoticeRow n (Instr.discardedNotice n) := .inr (.inr (.inr (.inr (.inr rfl))))
  refine ⟨fun hquiet hfault => ?discarded, fun hquiet hform hshort hslot => ?truncated,
    fun row hrow' => ⟨?start, fun hforeign span hspan => ?missed⟩, ?_, ?_, ?_, ?_, ?_, ?_, ?_⟩
  case discarded =>
    have hhold : holdFor s n = none := by
      rcases hfault with hform | ⟨_, _, hslot⟩
      · exact holdFor_none (.inl (by simp [relevant, hform]))
      · exact holdFor_none (.inr (.inl hslot))
    have ho : noticeOutcome (atHoldSlot n none s) n = .discarded := by
      rw [noticeOutcome_discarded]
      exact hfault.imp id fun ⟨_, hcheck, _⟩ => .inr hcheck
    rw [exec_noticeRow hrow, followNotice_whole_of_outcome hawake hidle hquiet
      (hfault.imp id fun ⟨hlong, _, _⟩ => hlong) hhold ho (by decide)]
    rfl
  case truncated =>
    rw [exec_noticeRow hrow, followNotice_whole hawake hidle hquiet, holdFor_none (.inr (.inl hslot)),
      passRest_of_truncated (u := atHoldSlot n none s) rfl rfl hform hshort]
    rfl
  case start =>
    rw [exec_noticeRow hrow', followNotice_of_followed .startMark hawake (by simp [missedStart]),
      followSpan, meetNotice_of_idle 0 0 hidle, seeWires_of_receiving .startMark rfl]
    rfl
  case missed =>
    have hmissed : missedStart span s = true := by
      cases span <;> simp_all [missedStart]
    rw [exec_noticeRow hrow', followNotice_of_missed span hawake hmissed, passUnfollowed_spanWires]
  · rintro w rfl
    exact ⟨rfl, rfl, rfl⟩
  · rintro w rfl
    exact ⟨rfl, rfl, by simp [spanWires, dataAfter, lastBitLow]⟩
  · rintro w rfl
    exact ⟨rfl, rfl, rfl⟩
  · rintro w rfl
    exact ⟨rfl, rfl, by cases hcheck : n.check <;> simp [spanWires, dataAfter, lastBitLow, hcheck]⟩
  · rintro w rfl
    exact ⟨rfl, rfl, rfl⟩
  · rintro w high rfl
    exact ⟨rfl, rfl, rfl⟩
  · rintro w (rfl | rfl) <;> exact ⟨rfl, rfl, rfl⟩

end Sys2Proof.Proofs
end

section
/-! PROOFS. What evaluations and issues read: states that agree in it are steered in the same way. -/

namespace Sys2Proof.Machine

open Safety

/-- Two states agree in what an evaluation, an issue or a cancel reads. -/
structure SameSteering (s t : State) : Prop where
  classes : t.classes = s.classes
  mux : t.mux = s.mux
  ctl : t.ctl = s.ctl
  ports : ∀ p, (t.ports.get p).state = (s.ports.get p).state ∧
    (t.ports.get p).revertReady = (s.ports.get p).revertReady
  verdicts : ∀ sw, (t.verdicts.switches.get sw).verdict = (s.verdicts.switches.get sw).verdict

variable {s t : State}

namespace SameSteering

variable (h : SameSteering s t)
include h

/-- Steering by the same outcome keeps the agreement. -/
theorem steered {s' t' : State} (hs : OnlySteers s s') (ht : OnlySteers t t')
    (hclasses : t'.classes = s'.classes) (hmux : t'.mux = s'.mux) : SameSteering s' t' where
  classes := hclasses
  mux := hmux
  ctl := by rw [ht.ctl, hs.ctl, h.ctl]
  ports p := by rw [ht.ports, hs.ports]; exact h.ports p
  verdicts sw := by rw [ht.verdicts, hs.verdicts]; exact h.verdicts sw

theorem settings : settings t = settings s := settings_of_ctl h.ctl

theorem portTier (c : ClassRecord) (p : PortId) : portTier t c p = portTier s c p := by
  have hverdict : portVerdict t p = portVerdict s p := by
    rw [portVerdict, h.verdicts, h.settings, portVerdict]
  unfold Machine.portTier
  rw [hverdict, (h.ports p).1]

theorem bestPort (c : ClassRecord) : bestPort t c = bestPort s c := by
  simp only [Machine.bestPort, firstInTier, h.portTier]

theorem decideMove (c : ClassRecord) : decideMove t c = decideMove s c := by
  simp only [Machine.decideMove, h.bestPort, h.portTier, h.settings, h.ports]

theorem wantedQueue (c : ClassId) (k : MoveKind) (b : PortId) :
    wantedQueue t c k b = wantedQueue s c k b := by
  simp only [Machine.wantedQueue, newEntry, rekindEntry, staggerMs, h.settings, h.mux, h.ctl,
    now_of_ctl h.ctl]

theorem evaluates (c : ClassId) : evaluates t c = evaluates s c := by
  simp only [Machine.evaluates, steers_of_ctl h.ctl, h.classes]

theorem acted (c : ClassId) (d : Decision) :
    (actInActive c d t).classes = (actInActive c d s).classes ∧
      (actInActive c d t).mux = (actInActive c d s).mux ∧
      (actInJoining c d t).classes = (actInJoining c d s).classes ∧
      (actInJoining c d t).mux = (actInJoining c d s).mux := by
  have hset (st : ClassStatus) : SameSteering (setStatus c st s) (setStatus c st t) :=
    ⟨by simp [setStatus, h.classes], h.mux, h.ctl, h.ports, h.verdicts⟩
  cases d <;>
    simp [actInActive, actInJoining, wantMove, wantNoMove, (hset _).wantedQueue, (hset _).classes,
      h.classes, h.mux]

theorem evaluate (c : ClassId) : SameSteering (evaluate c s) (evaluate c t) := by
  refine h.steered (evaluate_onlySteers c s) (evaluate_onlySteers c t) ?_ ?_ <;>
    unfold Machine.evaluate <;> rw [h.evaluates, h.ctl, h.classes, h.decideMove]
  · split
    · split
      · exact (h.acted c _).1
      · exact (h.acted c _).2.2.1
    · exact h.classes
  · split
    · split
      · exact (h.acted c _).2.1
      · exact (h.acted c _).2.2.2
    · exact h.mux

theorem evaluateAll : SameSteering (evaluateAll s) (evaluateAll t) := by
  have hfold : ∀ (l : List ClassId) (s t : State), SameSteering s t →
      SameSteering (l.foldl (fun u c => Machine.evaluate c u) s)
        (l.foldl (fun u c => Machine.evaluate c u) t) := by
    intro l
    induction l with
    | nil => exact fun _ _ h => h
    | cons c l ih => exact fun _ _ h => ih _ _ (h.evaluate c)
  exact hfold allClasses s t h

theorem issuable : issuable t = issuable s := by
  have helig : entryEligible t = entryEligible s := funext fun e => by
    simp only [entryEligible, h.ctl, now_of_ctl h.ctl]
  simp only [Machine.issuable, h.mux, steers_of_ctl h.ctl, helig]

theorem issueTest : SameSteering (issueTest s) (issueTest t) := by
  refine h.steered (issueTest_onlySteers s) (issueTest_onlySteers t) ?_ ?_ <;>
    unfold Machine.issueTest <;> rw [h.issuable]
  · split
    · simp only [issueEntry, h.classes]
    · exact h.classes
  · split
    · simp only [issueEntry, h.mux, clock_of_ctl h.ctl, h.settings]
    · exact h.mux

theorem evaluated : SameSteering (Machine.issueTest (Machine.evaluateAll s))
    (Machine.issueTest (Machine.evaluateAll t)) := h.evaluateAll.issueTest

theorem cancelTrigger (p : PortId) :
    (cancelTrigger p t).mux = (cancelTrigger p s).mux := by
  simp only [cancelTrigger_eq, muxAfterTrigger, h.mux, h.classes, h.ports, afterMs, h.ctl]

end SameSteering

/-- The evaluations and the issue test of a state are those of one that agrees with it. -/
theorem evaluated_eq (h : SameSteering s t) :
    issueTest (evaluateAll t) =
      { t with
        classes := (issueTest (evaluateAll s)).classes, mux := (issueTest (evaluateAll s)).mux } := by
  refine (onlySteers_eq (evaluated_onlySteers t)).trans ?_
  rw [h.evaluated.classes, h.evaluated.mux]

end Sys2Proof.Machine
end

section
/-! PROOFS. A notice part by part: the lines as the others leave them are read by no operation that a notice starts, so
its parts leave what the whole leaves. -/

namespace Sys2Proof.Machine

open Safety

variable {s t : State} {n : Notice}

/-! ## The record of the lines is read by no operation of the other blocks -/

/-- The state with other lines recorded. -/
def rewire (w : Wires) (s : State) : State := s.setBus { s.bus with wires := w }

/-- An operation leaves and reads no record of the lines. -/
def Rewires (f : State → State) : Prop := ∀ w s, f (rewire w s) = rewire w (f s)

theorem Rewires.ite {c : State → Prop} [DecidablePred c] {f g : State → State}
    (hc : ∀ w s, c (rewire w s) ↔ c s) (hf : Rewires f) (hg : Rewires g) :
    Rewires fun s => if c s then f s else g s := fun w s => by
  dsimp only
  simp only [hc]
  split
  · exact hf w s
  · exact hg w s

theorem rewires_id : Rewires fun s => s := fun _ _ => rfl

theorem sameSteering_rewire (w : Wires) (s : State) : SameSteering s (rewire w s) :=
  ⟨rfl, rfl, rfl, fun _ => ⟨rfl, rfl⟩, fun _ => rfl⟩

theorem rewires_evaluated (w : Wires) (s : State) :
    issueTest (evaluateAll (rewire w s)) = rewire w (issueTest (evaluateAll s)) := by
  rw [evaluated_eq (sameSteering_rewire w s), onlySteers_eq (evaluated_onlySteers s)]
  rfl

theorem rewires_issueTest : Rewires issueTest := fun w s => by
  have hsame := (sameSteering_rewire w s).issueTest
  rw [onlySteers_eq (issueTest_onlySteers (rewire w s)), hsame.classes, hsame.mux,
    onlySteers_eq (issueTest_onlySteers s)]
  rfl

theorem rewires_cancelTrigger (p : PortId) : Rewires (cancelTrigger p) := fun w s => by
  rw [cancelTrigger_eq, cancelTrigger_eq]
  rfl

theorem rewires_healthCause : Rewires healthCause :=
  .ite (c := fun s => healthGate s = true) (fun _ _ => Iff.rfl)
    (.ite (c := fun s => sendingHealth s = true) (fun _ _ => Iff.rfl) (fun _ _ => rfl)
      (.ite (c := fun s => hasHealth s = true) (fun _ _ => Iff.rfl) rewires_id fun _ _ => rfl))
    rewires_id

theorem rewires_requestRecompute : Rewires requestRecompute := fun w s => by
  cases hactivity : s.verdicts.activity with
  | idle =>
    rw [requestRecompute_of_idle hactivity, requestRecompute_of_idle (s := rewire w s) hactivity]
    rfl
  | recomputing r =>
    rw [requestRecompute_of_recomputing hactivity,
      requestRecompute_of_recomputing (s := rewire w s) hactivity]
    rfl

theorem rewires_rederive : Rewires rederive :=
  .ite (c := fun s => deriveOpinions s = s.opinions) (fun _ _ => Iff.rfl) rewires_id fun w s => by
    rw [← rewires_requestRecompute, ← rewires_healthCause]
    rfl

theorem rewires_joiningTest : Rewires joiningTest :=
  .ite (c := fun s => (s.ctl.state = .joining && allPortsUp s) = true) (fun _ _ => Iff.rfl)
    (fun w s => by
      rw [enterActive, enterActive, ← rewires_evaluated, ← rewires_healthCause]
      rfl)
    rewires_id

theorem rewires_portChanged (p : PortId) : Rewires (portChanged p) := fun w s => by
  rw [portChanged, rewires_rederive, rewires_cancelTrigger, rewires_evaluated, rewires_joiningTest, portChanged]

theorem rewires_probationCheck (p : PortId) : Rewires (probationCheck p) :=
  .ite (c := fun s => probationReady s p = true) (fun _ _ => Iff.rfl)
    (fun w s => by
      rw [enterProbation, enterProbation, ← rewires_portChanged]
      rfl)
    rewires_id

theorem rewires_laneStatusReports : Rewires laneStatusReports := fun w s => by
  unfold laneStatusReports
  induction allPorts generalizing s with
  | nil => rfl
  | cons p l ih =>
    simp only [List.foldl_cons]
    rw [← ih]
    congr 1
    split
    · next h =>
      have hpresent : (s.lanes.get p).present = true := h
      rw [if_pos hpresent, rewires_probationCheck p w s]
    · next h =>
      have habsent : ¬ (s.lanes.get p).present = true := h
      rw [if_neg habsent]

theorem rewires_enterJoining : Rewires enterJoining := fun w s => by
  have hjoined : (if (rewire w s).ctl.silenced then joined (rewire w s) else startBeacon (joined (rewire w s))) =
      rewire w (if s.ctl.silenced then joined s else startBeacon (joined s)) := by
    rw [show (rewire w s).ctl.silenced = s.ctl.silenced from rfl]
    split <;> rfl
  rw [enterJoining_eq, hjoined, rewires_healthCause, rewires_issueTest, enterJoining_eq]

theorem rewires_configure (c : Settings) : Rewires (configure c) := fun w s => by
  rw [configure, show applySettings c (rewire w s) = rewire w (applySettings c s) from rfl,
    rewires_enterJoining, rewires_rederive, rewires_laneStatusReports, configure]

/-! ## The stages of a notice on other lines -/

theorem settleNotice_rewire (n : Notice) (o : NoticeOutcome) : Rewires (settleNotice n o) := by
  cases o with
  | discarded | ignored | refused | late | overrun => exact fun _ _ => rfl
  | clash => exact .ite (c := fun s => s.ctl.silenced = true) (fun _ _ => Iff.rfl) rewires_id fun _ _ => rfl
  | taken =>
    exact .ite (c := fun _ => readKind n.header.kind = some .config) (fun _ _ => Iff.rfl) (fun _ _ => rfl)
      fun _ _ => rfl

theorem handOver_rewire (n : Notice) (w : Wires) (s : State) :
    ∃ w', handOver n (rewire w s) = rewire w' (handOver n s) := by
  unfold handOver
  dsimp only
  split
  · exact ⟨(rewire w (s.setBus { s.bus with slot := none })).bus.released, rfl⟩
  · refine ⟨w, ?_⟩
    split
    · next h =>
      have hstate : (s.setBus { s.bus with slot := none }).ctl.state = .unconfigured := h
      rw [if_pos hstate]
      exact rewires_configure _ w (s.setBus { s.bus with slot := none })
    · next h =>
      have hstate : ¬ (s.setBus { s.bus with slot := none }).ctl.state = .unconfigured := h
      rw [if_neg hstate]
      rfl
  · exact ⟨w, rfl⟩
  · exact ⟨w, rfl⟩

theorem closeNotice_rewire (h : Header) (w : Wires) (s : State) :
    ∃ w', closeNotice h (rewire w s) = rewire w' (closeNotice h s) := by
  unfold closeNotice
  rw [show (rewire w s).bus.activity = s.bus.activity from rfl]
  split
  · split
    · dsimp only
      rw [show (rewire w s).bus.slot = s.bus.slot from rfl]
      simp only [State.setBus_bus]
      split
      · exact handOver_rewire _ w (s.setBus { s.bus with activity := .receiving (.closing h) })
      · exact ⟨w, rfl⟩
    · exact ⟨w, rfl⟩
  · exact ⟨w, rfl⟩

theorem seeWires_rewire (n : Notice) (span : NoticeSpan) (s : State) :
    ∃ w, seeWires n span s = rewire w s := seeWires_eq s n span

/-! ## What the take slot leaves the station in -/

/-- The station awaits the stop mark of the notice, or a warm reset has begun. -/
def ClosedOrReset (h : Header) (s : State) : Prop :=
  (awake s = true ∧ s.bus.activity = .receiving (.closing h)) ∨
    (s.ctl.state = .resetting ∧ s.bus.activity = .idle)

/-- The station takes events and awaits the stop mark. -/
def Closing (h : Header) (s : State) : Prop :=
  awake s = true ∧ s.bus.activity = .receiving (.closing h)

theorem closing_healthCause {h : Header} (hs : Closing h s) : Closing h (healthCause s) := by
  unfold healthCause healthDue
  split
  · split
    · exact hs
    · split <;> exact hs
  · exact hs

theorem closing_steerFree (h : Header) : SteerFree (Closing h) := fun _ _ _ hs => hs

theorem closing_ops (h : Header) : KeptByOps (Closing h) where
  evaluate := (closing_steerFree h).evaluation.evaluate
  issueTest := (closing_steerFree h).evaluation.issueTest
  cancelTrigger := (closing_steerFree h).evaluation.cancelTrigger
  opinions _ _ hs := hs
  cause _ hs := closing_healthCause hs
  request s hs := ⟨(awake_of_ctl (requestRecompute_ctl s)).trans hs.1, by rw [requestRecompute_bus]; exact hs.2⟩
  active _ _ hs := ⟨rfl, hs.2⟩

theorem closing_configure {h : Header} {c : Settings} (hs : Closing h s) : Closing h (configure c s) :=
  (closing_ops h).configure ((closing_ops h).lines fun _ _ _ _ hs => hs) (fun _ hs => hs) ⟨rfl, hs.2⟩

theorem handOver_closedOrReset {h : Header} (n : Notice) (hs : Closing h s) :
    ClosedOrReset h (handOver n s) := by
  unfold handOver
  dsimp only
  split
  · exact .inr ⟨rfl, rfl⟩
  · split
    · exact .inl (closing_configure hs)
    · exact .inl hs
  · exact .inl hs
  · exact .inl hs

theorem closeNotice_closedOrReset {h : Header} {taken : Bool} (hawake : awake s = true)
    (hstage : s.bus.activity = .receiving (.taking h taken)) : ClosedOrReset h (closeNotice h s) := by
  have hclosing : Closing h (s.setBus { s.bus with activity := .receiving (.closing h) }) := ⟨hawake, rfl⟩
  unfold closeNotice
  simp only [hstage, if_true]
  split
  · exact handOver_closedOrReset _ hclosing
  · exact .inl hclosing

/-! ## The parts of a notice -/

theorem awake_settleNotice (n : Notice) (o : NoticeOutcome) (s : State) :
    awake (settleNotice n o s) = awake s := by
  cases o with
  | discarded | ignored | refused | late | overrun => rfl
  | clash => simp [settleNotice, awake]
  | taken =>
    unfold settleNotice storeNotice
    dsimp only
    split <;> rfl

/-- The stop mark ends what the take slot left, on whatever lines: the station becomes IDLE, or the part is not followed
in a warm reset. -/
theorem followNotice_stopMark {z : State} (hz : ClosedOrReset n.header z) (w : Wires) :
    followNotice n .stopMark (rewire w z) = seeWires n .whole (passStop n.header z) := by
  rcases hz with ⟨hawake, hclosing⟩ | ⟨hreset, hidle⟩
  · have hstop (u : State) (hu : u.bus.activity = .receiving (.closing n.header)) :
        passStop n.header u = toIdle u := by simp [passStop, hu]
    rw [followNotice_of_followed (s := rewire w z) .stopMark hawake
        (missedStart_of_busy .stopMark (by simp [rewire, hclosing])), followSpan,
      hstop _ hclosing, hstop _ (show (rewire w z).bus.activity = _ from hclosing),
      seeWires_of_idle .stopMark rfl, seeWires_of_idle .whole rfl]
    rfl
  · have hstop : passStop n.header z = passUnfollowed quietWires z := by simp [passStop, hidle]
    have hpassed : (passUnfollowed quietWires z).bus.activity = .idle := hidle
    rw [followNotice_of_resetting (s := rewire w z) .stopMark hreset, hstop, seeWires_of_idle .whole hpassed]
    rfl

/-- The body, the take slot and the stop mark, from the hold slot on and on whatever lines, leave what the rest of the
whole leaves. -/
theorem rest_part_by_part {u : State} (hawake : awake u = true)
    (hhead : u.bus.activity = .receiving (.headed n.header)) (w : Wires) (hforeign : w.foreign = u.bus.wires.foreign) :
    followNotice n .stopMark (followNotice n .takeSlot (followNotice n .body (rewire w u))) =
      seeWires n .whole (passRest n u) := by
  have hbusy : (rewire w u).bus.activity ≠ .idle := by simp [rewire, hhead]
  have hhead' : (rewire w u).bus.activity = .receiving (.headed n.header) := hhead
  have hbody : followNotice n .body (rewire w u) = seeWires n .body (endNotice n (rewire w u)) := by
    rw [followNotice_of_followed (s := rewire w u) .body hawake (missedStart_of_busy .body hbusy), followSpan,
      meetNotice_of_receiving (s := rewire w u) 4 _ hhead']
  rw [hbody]
  by_cases hhold : u.bus.hold = none
  · by_cases hshort : n.header.kindInForm.isSome = true ∧ n.complete = false
    · obtain ⟨hform, hshort⟩ := hshort
      have htake : followNotice n .takeSlot (toIdle u) =
          passUnfollowed (spanWires n .takeSlot) (toIdle u) :=
        followNotice_of_missed (s := toIdle u) .takeSlot hawake rfl
      have hstop : followNotice n .stopMark (passUnfollowed (spanWires n .takeSlot) (toIdle u)) =
          passUnfollowed (spanWires n .stopMark) (passUnfollowed (spanWires n .takeSlot) (toIdle u)) :=
        followNotice_of_missed (s := passUnfollowed _ (toIdle u)) .stopMark hawake rfl
      rw [endNotice_of_truncated hhead' hhold hform hshort, passRest_of_truncated hhead hhold hform hshort,
        show toIdle (rewire w u) = toIdle u from rfl, seeWires_of_idle .body rfl, htake, hstop,
        seeWires_of_idle .whole rfl]
      rfl
    · have hlong : n.header.kindInForm = none ∨ n.complete = true := by
        rw [not_and_or, Option.not_isSome_iff_eq_none, Bool.not_eq_false] at hshort
        exact hshort
      obtain ⟨taken, v, hv, hend⟩ : ∃ taken v, v = enterTakeSlot n.header taken
            (settleNotice n (noticeOutcome u n) u) ∧ endNotice n u = v :=
        ⟨_, _, rfl, endNotice_of_outcome hhead hhold hlong⟩
      have hend' : endNotice n (rewire w u) = rewire w v := by
        rw [← hend, endNotice_of_outcome hhead' hhold hlong, endNotice_of_outcome hhead hhold hlong,
          show noticeOutcome (rewire w u) n = noticeOutcome u n from rfl, settleNotice_rewire n _ w u]
        rfl
      have hawake' : awake v = true := by
        rw [hv]
        exact (awake_settleNotice n _ u).trans hawake
      have hstage : v.bus.activity = .receiving (.taking n.header taken) := by rw [hv]; rfl
      obtain ⟨w₁, hw₁⟩ := seeWires_rewire n .body (rewire w v)
      obtain ⟨w₂, hw₂⟩ := closeNotice_rewire n.header w₁ v
      obtain ⟨w₃, hw₃⟩ := seeWires_rewire n .takeSlot (rewire w₂ (closeNotice n.header v))
      have htake : followNotice n .takeSlot (rewire w₁ v) = rewire w₃ (closeNotice n.header v) := by
        rw [followNotice_of_followed (s := rewire w₁ v) .takeSlot hawake'
          (missedStart_of_busy .takeSlot (by simp [rewire, hstage])), followSpan, hw₂, hw₃]
        rfl
      rw [hend', hw₁, show rewire w₁ (rewire w v) = rewire w₁ v from rfl, htake,
        followNotice_stopMark (closeNotice_closedOrReset hawake' hstage) w₃, passRest, hend]
  · have hpass (span : NoticeSpan) (x : Wires) (hspan : span = .takeSlot ∨ span = .stopMark) :
        followNotice n span (rewire x u) = seeWires n span (rewire x u) := by
      rcases hspan with rfl | rfl
      · rw [followNotice_of_followed (s := rewire x u) .takeSlot hawake
          (missedStart_of_busy .takeSlot hbusy), followSpan]
        simp [closeNotice, rewire, hhead]
      · rw [followNotice_of_followed (s := rewire x u) .stopMark hawake
          (missedStart_of_busy .stopMark hbusy), followSpan]
        simp [passStop, rewire, hhead]
    have hsee (span : NoticeSpan) (x : Wires) : seeWires n span (rewire x u) =
        rewire { x with clockRuns := clockAfter span, dataLow := dataAfter n span } u :=
      seeWires_of_receiving (s := rewire x u) span hhead
    rw [endNotice_of_held hhead' hhold, hsee, hpass .takeSlot _ (.inl rfl), hsee,
      hpass .stopMark _ (.inr rfl), hsee, passRest_of_held hhead hhold, seeWires_of_receiving .whole hhead]
    simp only [hforeign]
    rfl

theorem followNotice_part_by_part (hawake : awake s = true) (hidle : s.bus.activity = .idle)
    (hquiet : s.bus.wires.foreign = false) :
    followNotice n .stopMark (followNotice n .takeSlot (followNotice n .body (followNotice n .header
        (followNotice n .startMark s)))) = followNotice n .whole s := by
  have hstart : followNotice n .startMark s = openStart s := by
    rw [followNotice_of_followed .startMark hawake (by simp [missedStart]), followSpan,
      meetNotice_of_idle 0 0 hidle, seeWires_of_receiving .startMark rfl]
    rfl
  have hheader : followNotice n .header (openStart s) =
      rewire { markWires with clockRuns := true, dataLow := false } (atHoldSlot n (holdFor s n) s) := by
    rw [followNotice_of_followed (s := openStart s) .header hawake
        (missedStart_of_busy .header (by simp [openStart])), followSpan,
      meetNotice_of_receiving (s := openStart s) 0 4 rfl, passHeader_openStart,
      seeWires_of_receiving (s := atHoldSlot n (holdFor s n) s) .header rfl]
    rfl
  rw [hstart, hheader, rest_part_by_part (u := atHoldSlot n (holdFor s n) s) hawake rfl
      { markWires with clockRuns := true, dataLow := false } rfl,
    followNotice_whole hawake hidle hquiet]

end Sys2Proof.Machine

namespace Sys2Proof.Proofs

open Sys2Proof.Machine Sys2Proof.Safety

/-- Settles O34: by the outcome at the end of the notice, and part by part by `followNotice_part_by_part`. -/
theorem healthIsStoredHeldOrLost : Obligations.HealthIsStoredHeldOrLost := by
  refine ⟨fun s n harr htarget hid hsender => ⟨fun hslot => ?stored, fun hslot hen => ?held,
      fun hslot hen => ?lost⟩,
    fun s n hres htarget hid hsender => ⟨fun hslot => ?resumed, fun hslot => ?late⟩,
    fun s n k row harr hrow hrel hslot hen => ?hold, fun s n row hawake hidle hquiet hrow => ?parts⟩
  case stored =>
    have hrel := (relevant_of_health s.ctl.id harr.form).mpr hsender
    have ho : noticeOutcome (atHoldSlot n none s) n = .taken := by
      rw [noticeOutcome_of_form harr.form harr.complete harr.check]
      simp [atHoldSlot, hsender, hrel, acceptance, hid, htarget, allStations, hslot]
    rw [exec_noticeRow (.inr (.inr (.inr (.inl rfl)))), followNotice_arrives harr,
      holdFor_none (.inr (.inl hslot)),
      passRest_of_health (u := atHoldSlot n none s) rfl rfl harr.complete ho (readKind_of_form harr.form)]
    rfl
  case held =>
    rw [exec_noticeRow (.inr (.inr (.inr (.inl rfl)))),
      followNotice_held harr ((relevant_of_health s.ctl.id harr.form).mpr hsender) hslot hen]
  case lost =>
    have hrel := (relevant_of_health s.ctl.id harr.form).mpr hsender
    have ho : noticeOutcome (atHoldSlot n none s) n = .overrun := by
      rw [noticeOutcome_of_form harr.form harr.complete harr.check]
      simp [atHoldSlot, hsender, hrel, acceptance, hid, htarget, allStations, hslot]
    rw [exec_noticeRow (.inr (.inr (.inr (.inl rfl)))),
      followNotice_of_outcome harr (holdFor_none (.inr (.inr hen))) ho (by decide)]
    rfl
  case resumed =>
    have hrel := (relevant_of_health s.ctl.id hres.form).mpr hsender
    have ho : noticeOutcome s n = .taken := by
      rw [noticeOutcome_of_form hres.form hres.complete hres.check]
      simp [hsender, hrel, acceptance, hid, htarget, allStations, hslot]
    rw [exec_noticeRow (.inr (.inr (.inr (.inl rfl)))), followNotice_resumes hres,
      passRest_of_health hres.headed hres.released hres.complete ho (readKind_of_form hres.form)]
    rfl
  case late =>
    have hrel := (relevant_of_health s.ctl.id hres.form).mpr hsender
    have ho : noticeOutcome s n = .overrun := by
      rw [noticeOutcome_of_form hres.form hres.complete hres.check]
      simp [hsender, hrel, acceptance, hid, htarget, allStations, hslot]
    rw [exec_noticeRow (.inr (.inr (.inr (.inl rfl)))), followNotice_resumes_of_outcome hres ho (by decide)]
    rfl
  case hold => rw [exec_noticeRow hrow, followNotice_held harr hrel hslot hen]
  case parts =>
    refine ⟨_, exec_noticeRow hrow .whole s, _, _, _, _, exec_noticeRow hrow .startMark _,
      exec_noticeRow hrow .header _, exec_noticeRow hrow .body _, exec_noticeRow hrow .takeSlot _, ?_⟩
    rw [exec_noticeRow hrow .stopMark, followNotice_part_by_part hawake hidle hquiet]

end Sys2Proof.Proofs
end

section
/-! PROOFS. What HOLD and a warm reset take: in HOLD the test of every command but SUPPLY_GOOD fails, and in a warm reset
that of every command but those of the pins, of the epoch and of the bus. -/

namespace Sys2Proof.Machine

open Safety

variable {s : State}

theorem not_awake_of_hold (h : s.ctl.state = .hold) : awake s = false := by
  simp [awake, h]

theorem issueTest_of_not_steers (h : steers s = false) : issueTest s = s := by
  simp [issueTest, issuable, h]

theorem not_steers_of_not_awake (h : awake s = false) : steers s = false := by
  cases hstate : s.ctl.state <;> simp_all [steers, awake]

/-- The commands that a station takes only while it is awake. -/
def NeedsAwake : Instr → Prop
  | .signalLoss _ | .signalPresent _ | .epochEnd | .mrdyFall | .mrdyRise | .rstnFall | .rstnRise
  | .warmResetEnd | .supplyLow | .supplyGood _ | .markInsideNotice _ | .truncatedNotice
  | .restartNotice _ _ | .configNotice _ _ | .queryNotice _ _ | .healthNotice _ _ | .digestNotice _ _
  | .discardedNotice _ _ => False
  | _ => True

/-- A command that needs the station awake finds its test failed in HOLD and in a warm reset. -/
theorem exec_of_not_awake {c : Instr} (hc : NeedsAwake c) (h : awake s = false) : exec c s = .next s := by
  have hstate : s.ctl.state ≠ .unconfigured ∧ s.ctl.state ≠ .joining := by
    constructor <;> rintro hstate <;> simp [awake, hstate] at h
  obtain ⟨hunconfigured, hjoining⟩ := hstate
  cases c with
  | serrPulse p => simp [exec, execSerrPulse, h]
  | helloPulse p => simp [exec, execHelloPulse, h]
  | helloSilence p => simp [exec, execHelloSilence, h]
  | revertTimerExpiry p => simp [exec, execRevertTimerExpiry, h]
  | transmissionAttempt rival => simp [exec, execTransmissionAttempt, h]
  | transmissionComplete taken => simp [exec, execTransmissionComplete, h]
  | holdLimitExpiry => simp [exec, execHoldLimitExpiry, h]
  | absorption => simp [exec, execAbsorption, h]
  | beaconExpiry => simp [exec, execBeaconExpiry, h]
  | freshnessExpiry id => simp [exec, execFreshnessExpiry, h]
  | expiryTimerExpiry id => simp [exec, execExpiryTimerExpiry, h]
  | recomputeCompletion => simp [exec, execRecomputeCompletion, h]
  | condemnHoldExpiry sw => simp [exec, execCondemnHoldExpiry, h]
  | backoffExpiry c p => simp [exec, execBackoffExpiry, h]
  | issue => simp [exec, execIssue, issueTest_of_not_steers (not_steers_of_not_awake h)]
  | answerDone => simp [exec, execAnswerDone, h]
  | answerRefused => simp [exec, execAnswerRefused, h]
  | answerCancelled => simp [exec, execAnswerCancelled, h]
  | answerLimitExpiry => simp [exec, execAnswerLimitExpiry, h]
  | cancelLimitExpiry => simp [exec, execCancelLimitExpiry, h]
  | configWaitExpiry => simp [exec, execConfigWaitExpiry, hunconfigured]
  | joinTimeExpiry => simp [exec, execJoinTimeExpiry, hjoining]
  | _ => exact absurd hc id

theorem followNotice_of_hold (n : Notice) (span : NoticeSpan) (h : s.ctl.state = .hold) :
    followNotice n span s = s := by
  simp [followNotice, not_awake_of_hold h, h]

theorem exec_of_hold {c : Instr} (h : s.ctl.state = .hold) (hc : ∀ pins, c ≠ .supplyGood pins) :
    exec c s = .next s := by
  have hawake := not_awake_of_hold h
  cases c with
  | supplyGood pins => exact absurd rfl (hc pins)
  | restartNotice n span | configNotice n span | queryNotice n span | healthNotice n span
  | digestNotice n span | discardedNotice n span => exact congrArg _ (followNotice_of_hold n span h)
  | signalLoss p => simp [exec, execSignalLoss, recordsSignal, h]
  | signalPresent p => simp [exec, execSignalPresent, recordsSignal, h]
  | epochEnd => simp [exec, execEpochEnd, h]
  | mrdyFall => simp [exec, execMrdyFall, hawake, h]
  | mrdyRise => simp [exec, execMrdyRise, hawake, h]
  | rstnFall => simp [exec, execRstnFall, hawake, h]
  | rstnRise => simp [exec, execRstnRise, h]
  | warmResetEnd => simp [exec, execWarmResetEnd, h]
  | supplyLow => simp [exec, execSupplyLow, h]
  | truncatedNotice => simp [exec, execTruncatedNotice, hawake, h]
  | markInsideNotice m => simp [exec, execMarkInsideNotice, markInside, hawake, h]
  | _ => exact exec_of_not_awake trivial hawake

end Sys2Proof.Machine

namespace Sys2Proof.Proofs

open Sys2Proof.Machine Sys2Proof.Safety

/-- Settles O4: HOLD by `exec_of_hold`, and in a warm reset the commands that need the station awake by
`exec_of_not_awake`, those of the bus by the lines alone. -/
theorem holdAndWarmResetTakeNoOtherEvent : Obligations.HoldAndWarmResetTakeNoOtherEvent := by
  intro c s
  refine ⟨exec_of_hold, fun hreset hloss hpresent hepoch hfall hrise hrfall hrrise hend hlow hrow hmark htrunc => ?_,
    fun hreset => ⟨fun n row hrow span => ?_, ?_, ?_, ?_⟩⟩
  · have hgood (pins : Pins) : exec (.supplyGood pins) s = .next s := by
      simp [exec, execSupplyGood, hreset]
    cases c with
    | supplyGood pins => exact hgood pins
    | signalLoss p => exact absurd rfl (hloss p)
    | signalPresent p => exact absurd rfl (hpresent p)
    | epochEnd => exact absurd rfl hepoch
    | mrdyFall => exact absurd rfl hfall
    | mrdyRise => exact absurd rfl hrise
    | rstnFall => exact absurd rfl hrfall
    | rstnRise => exact absurd rfl hrrise
    | warmResetEnd => exact absurd rfl hend
    | supplyLow => exact absurd rfl hlow
    | markInsideNotice m => exact absurd rfl (hmark m)
    | truncatedNotice => exact absurd rfl htrunc
    | restartNotice n span => exact absurd rfl (hrow n _ span (.inl rfl))
    | configNotice n span => exact absurd rfl (hrow n _ span (.inr (.inl rfl)))
    | queryNotice n span => exact absurd rfl (hrow n _ span (.inr (.inr (.inl rfl))))
    | healthNotice n span => exact absurd rfl (hrow n _ span (.inr (.inr (.inr (.inl rfl)))))
    | digestNotice n span => exact absurd rfl (hrow n _ span (.inr (.inr (.inr (.inr (.inl rfl))))))
    | discardedNotice n span => exact absurd rfl (hrow n _ span (.inr (.inr (.inr (.inr (.inr rfl))))))
    | _ => exact exec_of_not_awake trivial (not_awake_of_resetting hreset)
  · rw [exec_noticeRow hrow, followNotice_of_resetting span hreset, passUnfollowed_spanWires]
  · simp only [exec, execMarkInsideNotice, markInside, not_awake_of_resetting hreset, hreset]
    rfl
  · simp only [exec, execMarkInsideNotice, markInside, not_awake_of_resetting hreset, hreset]
    rfl
  · simp only [exec, execTruncatedNotice, not_awake_of_resetting hreset, hreset]
    rfl

end Sys2Proof.Proofs
end

section
/-! PROOFS. Health reporting, the peer view table and the verdict unit: what each change of the table makes of the entry of
one station, and what a completion writes. -/

namespace Sys2Proof.Machine

open Safety

variable {s t u : State} {id : Nat} {e : PeerEntry} {entries : List PeerEntry}

/-! ## The entry of one station (R84, R86 to R88) -/

theorem findPeer_id (h : findPeer entries id = some e) : e.id = id := by
  simpa using List.find?_some h

theorem findPeer_placePeer (h : ∀ x ∈ entries, x.id ≠ e.id) :
    findPeer (placePeer entries e) id = if e.id = id then some e else findPeer entries id := by
  induction entries with
  | nil => by_cases he : e.id = id <;> simp [placePeer, findPeer, he]
  | cons x xs ih =>
    have hx := h x (List.mem_cons_self ..)
    have ih := ih fun y hy => h y (.tail x hy)
    unfold placePeer
    unfold findPeer at ih ⊢
    split
    · rw [List.find?_cons]
      by_cases he : e.id = id <;> simp [he]
    · rw [List.find?_cons, List.find?_cons, ih]
      by_cases hxid : x.id = id
      · have he : e.id ≠ id := fun he => hx (hxid.trans he.symm)
        simp [hxid, he]
      · simp [hxid]

theorem findPeer_erasePeer (entries : List PeerEntry) (gone id : Nat) :
    findPeer (erasePeer entries gone) id = if id = gone then none else findPeer entries id := by
  unfold findPeer erasePeer
  rw [List.find?_filter]
  split
  · next h =>
    subst h
    rw [List.find?_eq_none]
    simp
  · next h =>
    congr 1
    funext x
    by_cases hx : x.id = id
    · simp [hx, h]
    · simp [hx]

theorem findPeer_storePeer (entries : List PeerEntry) (e : PeerEntry) (id : Nat) :
    findPeer (storePeer entries e) id = if e.id = id then some e else findPeer entries id := by
  rw [storePeer, findPeer_placePeer (fun x hx => ((mem_erasePeer entries e.id x).mp hx).2),
    findPeer_erasePeer]
  split
  · rfl
  · next h => rw [if_neg (Ne.symm h)]

theorem findPeer_absorb (n : Notice) (s : State) (id : Nat) :
    findPeer (absorb n s).view.entries id =
      if n.header.sender.toNat = id then some (absorbedEntry s n) else findPeer s.view.entries id :=
  findPeer_storePeer s.view.entries (absorbedEntry s n) id

theorem findPeer_peerRemoved (gone : Nat) (s : State) (id : Nat) :
    findPeer (peerRemoved gone s).view.entries id =
      if id = gone then none else findPeer s.view.entries id :=
  findPeer_erasePeer s.view.entries gone id

theorem findPeer_peerStale (old : Nat) (s : State) (id : Nat) :
    findPeer (peerStale old s).view.entries id =
      if id = old then (findPeer s.view.entries id).map PeerEntry.goStale
      else findPeer s.view.entries id := by
  have hid (x : PeerEntry) : (if x.id = old then x.goStale else x).id = x.id := by
    split <;> rfl
  simp only [peerStale, State.setEntries_entries, findPeer, List.find?_map, Function.comp_def, hid]
  cases hfind : s.view.entries.find? (fun x => decide (x.id = id)) with
  | none => simp
  | some x =>
    have hx : x.id = id := findPeer_id (id := id) hfind
    by_cases h : id = old <;> simp [hx, h]

theorem absorbedEntry_eq (s : State) (n : Notice) :
    absorbedEntry s n =
      { id := n.header.sender.toNat, sender := readSender n.body,
        opinions := readOpinions n.body, lastHeard := s.ctl.time, status := .fresh,
        freshTimer := .running (countedMs s ((settings s).fresh * 10)),
        expiryTimer := .running (countedMs s ((settings s).expire * 100)) } := rfl

/-! ## The commands of the table -/

theorem healthWaiting_of_slot {n : Notice} (hslot : s.bus.slot = some n)
    (hkind : readKind n.header.kind = some .health)
    (hended : ∀ h, s.bus.activity ≠ .receiving (.taking h true)) : healthWaiting s = some n := by
  simp only [healthWaiting, hslot, hkind, if_true]

theorem isRecomputing_iff : isRecomputing s = true ↔ s.verdicts.activity ≠ .idle := by
  unfold isRecomputing
  split <;> simp_all

theorem not_isRecomputing_iff : isRecomputing s = false ↔ s.verdicts.activity = .idle := by
  rw [← Bool.not_eq_true, isRecomputing_iff, not_not]

theorem startRecompute_activity (s : State) : ∃ r, (startRecompute s).verdicts.activity = .recomputing r ∧
    r.elapsed = 0 := ⟨_, rfl, rfl⟩

theorem requestRecompute_activity (s : State) : (requestRecompute s).verdicts.activity ≠ .idle := by
  cases h : s.verdicts.activity with
  | idle =>
    rw [requestRecompute_of_idle h]
    exact fun h => nomatch h
  | recomputing r =>
    rw [requestRecompute_of_recomputing h]
    simp [h]

theorem freshDue_of_running {due : Instant} (hfind : findPeer s.view.entries id = some e)
    (htimer : e.freshTimer = .running due) : freshDue s id = (Timer.running due).isDue (clock s) := by
  simp [freshDue, hfind, htimer]

theorem expiryDue_of_running {due : Instant} (hfind : findPeer s.view.entries id = some e)
    (htimer : e.expiryTimer = .running due) : expiryDue s id = (Timer.running due).isDue (clock s) := by
  simp [expiryDue, hfind, htimer]

theorem holdExpiry_of_held {h : HeldExpiry} (hmem : h ∈ s.view.held) : holdExpiry h s = s := by
  simp [holdExpiry, hmem]

theorem holdExpiry_of_not_held {h : HeldExpiry} (hmem : h ∉ s.view.held) :
    holdExpiry h s = { s with view := { s.view with held := s.view.held ++ [h] } } := by
  simp [holdExpiry, hmem]

theorem removalRequests_of_find (hfind : findPeer s.view.entries id = some e) :
    removalRequests s id = (e.status == .fresh) := by
  simp [removalRequests, hfind]

/-! ## The verdict of a switch at a completion (R100 to R102) -/

theorem lesserVerdict_eq (w : SwitchRecord) :
    lesserVerdict w =
      if 1 ≤ w.lastA ∨ w.opinionRead = .impaired ∨ w.opinionRead = .lost then .doubted else .clear := by
  simp [lesserVerdict, or_assoc]

theorem completeSwitch_of_condition {r : Recompute} {sw : SwitchId}
    (h : condemnCondition r (r.mapped.get sw) (s.verdicts.switches.get sw) = true) :
    completeSwitch s r sw = (s.verdicts.switches.get sw).condemn := by
  simp [completeSwitch, h]

theorem completeSwitch_of_lesser {r : Recompute} {sw : SwitchId}
    (h : condemnCondition r (r.mapped.get sw) (s.verdicts.switches.get sw) = false)
    (hverdict : (s.verdicts.switches.get sw).verdict ≠ .condemned) :
    completeSwitch s r sw = (s.verdicts.switches.get sw).lower := by
  simp [completeSwitch, h, hverdict]

theorem completeSwitch_of_unwind {r : Recompute} {sw : SwitchId}
    (h : condemnCondition r (r.mapped.get sw) (s.verdicts.switches.get sw) = false)
    (hverdict : (s.verdicts.switches.get sw).verdict = .condemned) :
    completeSwitch s r sw =
      (s.verdicts.switches.get sw).unwind (clock s) (settings s).condemnHold := by
  simp [completeSwitch, h, hverdict]

theorem completeSwitch_condition {r : Recompute} {sw : SwitchId}
    (h : condemnCondition r (r.mapped.get sw) (s.verdicts.switches.get sw) = false) :
    (completeSwitch s r sw).condition = false := by
  by_cases hverdict : (s.verdicts.switches.get sw).verdict = .condemned
  · rw [completeSwitch_of_unwind h hverdict]
    unfold SwitchRecord.unwind
    split
    · split <;> rfl
    · rfl
    · rfl
  · rw [completeSwitch_of_lesser h hverdict]
    rfl

theorem verdictsChanged_iff {before after : Eight SwitchRecord} :
    verdictsChanged before after = true ↔
      ∃ sw, (before.get sw).verdict ≠ (after.get sw).verdict := by
  simp [verdictsChanged]

/-! ## The held expiries, for the entry of one station (R90, R91) -/

/-- A held expiry is one of the two of the entry, or of another one. -/
theorem heldExpiry_cases (h : HeldExpiry) (id : Nat) :
    h = .freshness id ∨ h = .removal id ∨ h.id ≠ id := by
  by_cases hid : h.id = id
  · subst hid
    cases h with
    | freshness id => exact .inl rfl
    | removal id => exact .inr (.inl rfl)
  · exact .inr (.inr hid)

theorem findPeer_applyHeld_other {h : HeldExpiry} (hid : h.id ≠ id) :
    findPeer (applyHeld h s).1.view.entries id = findPeer s.view.entries id := by
  cases h with
  | freshness old =>
    unfold applyHeld
    dsimp only
    split
    · rw [findPeer_peerStale]
      exact if_neg (Ne.symm hid)
    · rfl
  | removal old =>
    unfold applyHeld
    dsimp only
    split
    · rw [findPeer_peerRemoved]
      exact if_neg (Ne.symm hid)
    · rfl

theorem freshRunning_of_find (hfind : findPeer s.view.entries id = some e) :
    freshRunning s id = e.freshTimer.isRunning := by
  simp [freshRunning, hfind]

theorem expiryRunning_of_find (hfind : findPeer s.view.entries id = some e) :
    expiryRunning s id = e.expiryTimer.isRunning := by
  simp [expiryRunning, hfind]

theorem applyHeld_freshness (hfind : findPeer s.view.entries id = some e)
    (hrun : e.freshTimer.isRunning = true) :
    findPeer (applyHeld (.freshness id) s).1.view.entries id = some e.goStale ∧
      (applyHeld (.freshness id) s).2 = true := by
  simp [applyHeld, freshRunning_of_find hfind, hrun, findPeer_peerStale, hfind]

theorem applyHeld_freshness_stopped (h : freshRunning s id = false) :
    applyHeld (.freshness id) s = (s, false) := by
  simp [applyHeld, h]

theorem applyHeld_removal (hfind : findPeer s.view.entries id = some e)
    (hrun : e.expiryTimer.isRunning = true) :
    findPeer (applyHeld (.removal id) s).1.view.entries id = none ∧
      (applyHeld (.removal id) s).2 = (e.status == .fresh) := by
  simp [applyHeld, expiryRunning_of_find hfind, hrun, findPeer_peerRemoved,
    removalRequests_of_find hfind]

theorem findPeer_applyHeld_none (h : HeldExpiry) (hfind : findPeer s.view.entries id = none) :
    findPeer (applyHeld h s).1.view.entries id = none := by
  rcases heldExpiry_cases h id with rfl | rfl | hid
  · have hstopped : freshRunning s id = false := by simp [freshRunning, hfind]
    rw [applyHeld_freshness_stopped hstopped, hfind]
  · have hstopped : expiryRunning s id = false := by simp [expiryRunning, hfind]
    simp [applyHeld, hstopped, hfind]
  · rw [findPeer_applyHeld_other hid, hfind]

theorem applyAllHeld_cons (h : HeldExpiry) (hs : List HeldExpiry) (s : State) :
    applyAllHeld (h :: hs) s =
      ((applyAllHeld hs (applyHeld h s).1).1, (applyHeld h s).2 || (applyAllHeld hs (applyHeld h s).1).2) :=
  rfl

theorem findPeer_applyAllHeld_none (hs : List HeldExpiry) (hfind : findPeer s.view.entries id = none) :
    findPeer (applyAllHeld hs s).1.view.entries id = none := by
  induction hs generalizing s with
  | nil => exact hfind
  | cons h hs ih => exact ih (findPeer_applyHeld_none h hfind)

/-- An entry with no held expiry is kept. -/
theorem findPeer_applyAllHeld_other {hs : List HeldExpiry} (hfresh : HeldExpiry.freshness id ∉ hs)
    (hremoval : HeldExpiry.removal id ∉ hs) :
    findPeer (applyAllHeld hs s).1.view.entries id = findPeer s.view.entries id := by
  induction hs generalizing s with
  | nil => rfl
  | cons h hs ih =>
    obtain ⟨hne, hfresh⟩ := not_or.mp (mt List.mem_cons.mpr hfresh)
    obtain ⟨hne', hremoval⟩ := not_or.mp (mt List.mem_cons.mpr hremoval)
    rw [applyAllHeld_cons]
    rcases heldExpiry_cases h id with rfl | rfl | hid
    · exact absurd rfl hne
    · exact absurd rfl hne'
    · exact (ih hfresh hremoval).trans (findPeer_applyHeld_other hid)

/-- An entry whose freshness timer is not running keeps what it has, but for a removal. -/
theorem findPeer_applyAllHeld_stale {hs : List HeldExpiry} (hfind : findPeer s.view.entries id = some e)
    (hstopped : e.freshTimer.isRunning = false) (hremoval : HeldExpiry.removal id ∉ hs) :
    findPeer (applyAllHeld hs s).1.view.entries id = some e := by
  induction hs generalizing s with
  | nil => exact hfind
  | cons h hs ih =>
    obtain ⟨hne, hremoval⟩ := not_or.mp (mt List.mem_cons.mpr hremoval)
    rw [applyAllHeld_cons]
    refine ih ?_ hremoval
    rcases heldExpiry_cases h id with rfl | rfl | hid
    · rw [applyHeld_freshness_stopped ((freshRunning_of_find hfind).trans hstopped)]
      exact hfind
    · exact absurd rfl hne
    · rw [findPeer_applyHeld_other hid, hfind]

/-- A held freshness expiry makes the entry STALE and makes a request. -/
theorem applyAllHeld_freshness {hs : List HeldExpiry} (hfind : findPeer s.view.entries id = some e)
    (hrun : e.freshTimer.isRunning = true) (hfresh : HeldExpiry.freshness id ∈ hs)
    (hremoval : HeldExpiry.removal id ∉ hs) :
    findPeer (applyAllHeld hs s).1.view.entries id = some e.goStale ∧ (applyAllHeld hs s).2 = true := by
  induction hs generalizing s with
  | nil => cases hfresh
  | cons h hs ih =>
    obtain ⟨hne, hothers⟩ := not_or.mp (mt List.mem_cons.mpr hremoval)
    rw [applyAllHeld_cons]
    rcases heldExpiry_cases h id with rfl | rfl | hid
    · obtain ⟨hstale, hrequest⟩ := applyHeld_freshness hfind hrun
      exact ⟨findPeer_applyAllHeld_stale hstale rfl hothers, by simp [hrequest]⟩
    · exact absurd rfl hne
    · have hmem : HeldExpiry.freshness id ∈ hs :=
        (List.mem_cons.mp hfresh).resolve_left fun h => hid (by rw [← h]; rfl)
      obtain ⟨hstale, hrequest⟩ := ih ((findPeer_applyHeld_other hid).trans hfind) hmem hothers
      exact ⟨hstale, by simp [hrequest]⟩

/-- A held removal removes the entry, and makes a request where the entry was FRESH: the removal itself, or the held
freshness expiry that made it STALE before. -/
theorem applyAllHeld_removal {hs : List HeldExpiry} (hfind : findPeer s.view.entries id = some e)
    (hrun : e.expiryTimer.isRunning = true) (hremoval : HeldExpiry.removal id ∈ hs) :
    findPeer (applyAllHeld hs s).1.view.entries id = none ∧
      (e.status = .fresh → (applyAllHeld hs s).2 = true) := by
  induction hs generalizing s e with
  | nil => cases hremoval
  | cons h hs ih =>
    rw [applyAllHeld_cons]
    rcases heldExpiry_cases h id with rfl | rfl | hid
    · have hmem : HeldExpiry.removal id ∈ hs :=
        (List.mem_cons.mp hremoval).resolve_left fun h => by cases h
      cases hfresh : e.freshTimer.isRunning with
      | true =>
        obtain ⟨hstale, hrequest⟩ := applyHeld_freshness hfind hfresh
        exact ⟨(ih hstale hrun hmem).1, fun _ => by simp [hrequest]⟩
      | false =>
        rw [applyHeld_freshness_stopped ((freshRunning_of_find hfind).trans hfresh)]
        obtain ⟨hgone, hrequest⟩ := ih hfind hrun hmem
        exact ⟨hgone, fun hstatus => by simp [hrequest hstatus]⟩
    · obtain ⟨hgone, hrequest⟩ := applyHeld_removal hfind hrun
      exact ⟨findPeer_applyAllHeld_none hs hgone, fun hstatus => by simp [hrequest, hstatus]⟩
    · have hmem : HeldExpiry.removal id ∈ hs :=
        (List.mem_cons.mp hremoval).resolve_left fun h => hid (by rw [← h]; rfl)
      obtain ⟨hgone, hrequest⟩ := ih ((findPeer_applyHeld_other hid).trans hfind) hrun hmem
      exact ⟨hgone, fun hstatus => by simp [hrequest hstatus]⟩

theorem mem_heldAfter_of_other {absorbed : Option Nat} {hs : List HeldExpiry} {h : HeldExpiry}
    (hother : absorbed ≠ some h.id) : h ∈ heldAfter absorbed hs ↔ h ∈ hs := by
  simp [heldAfter, hother]

theorem not_mem_heldAfter {absorbed : Option Nat} {hs : List HeldExpiry} {h : HeldExpiry}
    (habsorbed : absorbed = some h.id) : h ∉ heldAfter absorbed hs := by
  simp [heldAfter, habsorbed]

/-! ## What a completion leaves (R98) -/

theorem writeVerdicts_kept (r : Recompute) (s : State) :
    (writeVerdicts r s).lanes = s.lanes ∧ (writeVerdicts r s).ports = s.ports ∧
      (writeVerdicts r s).opinions = s.opinions ∧ (writeVerdicts r s).ctl = s.ctl ∧
      (writeVerdicts r s).view = s.view ∧ (writeVerdicts r s).bus = s.bus ∧
      (writeVerdicts r s).verdicts =
        { s.verdicts with switches := completeSwitches s r, activity := .idle } := by
  unfold writeVerdicts
  dsimp only
  split <;> simp

/-- The changes that the table held back change the table, and take a HEALTH out of the slot. -/
theorem releaseHeld_eq (s : State) :
    ∃ view bus, (releaseHeld s).1 = { s with view := view, bus := bus } := by
  unfold releaseHeld absorbWaiting
  split
  · next n _ =>
    obtain ⟨es, hes⟩ := applyAllHeld_eq { absorb n s with view := { (absorb n s).view with held := [] } }
      (heldAfter (some n.header.sender.toNat) s.view.held)
    exact ⟨_, _, hes⟩
  · obtain ⟨es, hes⟩ := applyAllHeld_eq { s with view := { s.view with held := [] } }
      (heldAfter none s.view.held)
    exact ⟨_, _, hes⟩

theorem completeRecompute_kept (r : Recompute) (s : State) :
    (completeRecompute r s).lanes = s.lanes ∧ (completeRecompute r s).ports = s.ports ∧
      (completeRecompute r s).opinions = s.opinions ∧ (completeRecompute r s).ctl = s.ctl ∧
      (completeRecompute r s).classes = (writeVerdicts r s).classes ∧
      (completeRecompute r s).mux = (writeVerdicts r s).mux := by
  obtain ⟨hlanes, hports, hopinions, hctl, -, -, -⟩ := writeVerdicts_kept r s
  obtain ⟨view, bus, hheld⟩ := releaseHeld_eq (writeVerdicts r s)
  unfold completeRecompute
  dsimp only
  split <;> simp [hheld, hlanes, hports, hopinions, hctl]

theorem completeRecompute_switch (r : Recompute) (s : State) (sw : SwitchId) :
    ((completeRecompute r s).verdicts.switches.get sw).verdict = (completeSwitch s r sw).verdict ∧
      ((completeRecompute r s).verdicts.switches.get sw).condition = (completeSwitch s r sw).condition ∧
      ((completeRecompute r s).verdicts.switches.get sw).holdTimer = (completeSwitch s r sw).holdTimer := by
  obtain ⟨-, -, -, -, -, -, hverdicts⟩ := writeVerdicts_kept r s
  obtain ⟨view, bus, hheld⟩ := releaseHeld_eq (writeVerdicts r s)
  unfold completeRecompute
  dsimp only
  split <;> simp [hheld, hverdicts, completeSwitches, startRecompute_switch]

theorem exec_recomputeCompletion {r : Recompute} (hawake : awake s = true)
    (hactivity : s.verdicts.activity = .recomputing r) :
    exec .recomputeCompletion s = .next (completeRecompute r s) := by
  simp [exec, execRecomputeCompletion, hawake, hactivity]

/-! ## The held changes at a completion, and the further recompute (R90, R91, R98) -/

/-- The table with nothing held any more. -/
def unheld (s : State) : State := { s with view := { s.view with held := [] } }

theorem releaseHeld_of_waiting {n : Notice} (h : healthWaiting s = some n) :
    releaseHeld s =
      ((applyAllHeld (heldAfter (some n.header.sender.toNat) s.view.held) (unheld (absorb n s))).1, true) := by
  simp [releaseHeld, absorbWaiting, h, unheld]

theorem releaseHeld_of_none (h : healthWaiting s = none) :
    releaseHeld s = applyAllHeld s.view.held (unheld s) := by
  have hafter : heldAfter none s.view.held = s.view.held := by simp [heldAfter]
  simp [releaseHeld, absorbWaiting, h, hafter, unheld]

/-- The table and the bus after the held changes. -/
theorem releaseHeld_held (s : State) : (releaseHeld s).1.view.held = [] := by
  cases h : healthWaiting s with
  | none =>
    rw [releaseHeld_of_none h]
    obtain ⟨es, hes⟩ := applyAllHeld_eq (unheld s) s.view.held
    rw [hes]
    rfl
  | some n =>
    rw [releaseHeld_of_waiting h]
    obtain ⟨es, hes⟩ :=
      applyAllHeld_eq (unheld (absorb n s)) (heldAfter (some n.header.sender.toNat) s.view.held)
    rw [hes]
    rfl

theorem releaseHeld_bus_of_none (h : healthWaiting s = none) : (releaseHeld s).1.bus = s.bus := by
  obtain ⟨es, hes⟩ := applyAllHeld_eq (unheld s) s.view.held
  rw [releaseHeld_of_none h, hes]
  rfl

/-- The entry just absorbed has no held expiry left. -/
theorem releaseHeld_absorbed {n : Notice} (h : healthWaiting s = some n) :
    (releaseHeld s).1.bus = { s.bus with slot := none, hold := none } ∧
      findPeer (releaseHeld s).1.view.entries n.header.sender.toNat = some (absorbedEntry s n) := by
  rw [releaseHeld_of_waiting h]
  refine ⟨?_, ?_⟩
  · obtain ⟨es, hes⟩ :=
      applyAllHeld_eq (unheld (absorb n s)) (heldAfter (some n.header.sender.toNat) s.view.held)
    rw [hes]
    rfl
  · exact (findPeer_applyAllHeld_other (id := n.header.sender.toNat) (not_mem_heldAfter rfl)
      (not_mem_heldAfter rfl)).trans ((findPeer_absorb n s _).trans (if_pos rfl))

/-- For an entry that is not just absorbed, the held expiries are those of the table before. -/
theorem releaseHeld_other (hother : ∀ n, healthWaiting s = some n → n.header.sender.toNat ≠ id) :
    ∃ hs u, (releaseHeld s).1 = (applyAllHeld hs u).1 ∧
      ((applyAllHeld hs u).2 = true → (releaseHeld s).2 = true) ∧
      findPeer u.view.entries id = findPeer s.view.entries id ∧
      ∀ h : HeldExpiry, h.id = id → (h ∈ hs ↔ h ∈ s.view.held) := by
  cases h : healthWaiting s with
  | none =>
    rw [releaseHeld_of_none h]
    exact ⟨_, _, rfl, fun h => h, rfl, fun _ _ => Iff.rfl⟩
  | some n =>
    have hne := hother n h
    rw [releaseHeld_of_waiting h]
    refine ⟨_, _, rfl, fun _ => rfl, (findPeer_absorb n s id).trans (if_neg hne), fun x hx =>
      mem_heldAfter_of_other fun heq => hne ?_⟩
    rw [← hx]
    exact Option.some.inj heq

theorem healthWaiting_of_bus (h : t.bus = s.bus) : healthWaiting t = healthWaiting s := by
  simp [healthWaiting, h]

theorem healthWaiting_writeVerdicts (r : Recompute) (s : State) :
    healthWaiting (writeVerdicts r s) = healthWaiting s := by
  obtain ⟨-, -, -, -, -, hbus, -⟩ := writeVerdicts_kept r s
  exact healthWaiting_of_bus hbus

theorem completeRecompute_of_request {r : Recompute}
    (h : s.verdicts.again = true ∨ (releaseHeld (writeVerdicts r s)).2 = true) :
    completeRecompute r s = startRecompute (releaseHeld (writeVerdicts r s)).1 := by
  rcases h with h | h <;> simp [completeRecompute, h]

theorem completeRecompute_of_none {r : Recompute} (hagain : s.verdicts.again = false)
    (h : (releaseHeld (writeVerdicts r s)).2 = false) :
    completeRecompute r s = (releaseHeld (writeVerdicts r s)).1 ∧
      (completeRecompute r s).verdicts.activity = .idle ∧ (completeRecompute r s).verdicts.again = false := by
  have hcomplete : completeRecompute r s = (releaseHeld (writeVerdicts r s)).1 := by
    simp [completeRecompute, hagain, h]
  obtain ⟨-, -, -, -, -, -, hverdicts⟩ := writeVerdicts_kept r s
  obtain ⟨view, bus, hheld⟩ := releaseHeld_eq (writeVerdicts r s)
  refine ⟨hcomplete, ?_, ?_⟩ <;> rw [hcomplete, hheld] <;> simp [hverdicts, hagain]

theorem completeRecompute_again (r : Recompute) (s : State) :
    (completeRecompute r s).verdicts.again = false := by
  by_cases h : s.verdicts.again = true ∨ (releaseHeld (writeVerdicts r s)).2 = true
  · rw [completeRecompute_of_request h]
    rfl
  · obtain ⟨hagain, hnone⟩ := not_or.mp h
    exact (completeRecompute_of_none (by simpa using hagain) (by simpa using hnone)).2.2

/-- A further recompute reads the table and the bus, and leaves them. -/
theorem completeRecompute_view (r : Recompute) (s : State) :
    (completeRecompute r s).view = (releaseHeld (writeVerdicts r s)).1.view ∧
      (completeRecompute r s).bus = (releaseHeld (writeVerdicts r s)).1.bus := by
  unfold completeRecompute
  dsimp only
  split <;> simp

theorem completeRecompute_activity {r : Recompute}
    (h : s.verdicts.again = true ∨ (releaseHeld (writeVerdicts r s)).2 = true) :
    (completeRecompute r s).verdicts.activity ≠ .idle := by
  rw [completeRecompute_of_request h]
  exact fun h => nomatch h

end Sys2Proof.Machine

namespace Sys2Proof.Proofs

open Sys2Proof.Machine Sys2Proof.Safety

/-- Settles O38: the expiry is a HEALTH cause with the beacon timer stopped. -/
theorem beaconExpiryMakesHealthDue : Obligations.BeaconExpiryMakesHealthDue := by
  intro s due hsteers hsilenced hbeacon
  have hawake : awake s = true := by
    rw [← Bool.not_eq_false]
    intro h
    rw [not_steers_of_not_awake h] at hsteers
    cases hsteers
  have hgate : healthGate { s with beacon := .stopped } = true := by
    have h : steers { s with beacon := .stopped } = true := hsteers
    simp [healthGate, h, hsilenced]
  refine ⟨fun hdue => ?early, fun hdue => ?expires⟩
  case early => simp [exec, execBeaconExpiry, hbeacon, isDue_of_not_ranOut hdue]
  case expires =>
    have hexec : exec .beaconExpiry s = .next (healthCause { s with beacon := .stopped }) := by
      simp [exec, execBeaconExpiry, hawake, hbeacon, isDue_running.mpr hdue]
    rw [hexec]
    refine ⟨fun hsending => ?_, fun hsending => ⟨fun hqueue => ?_, fun hqueue => ?_⟩⟩
    · rw [healthCause_of_sending hgate hsending]
      rfl
    · rw [healthCause_of_waiting (s := { s with beacon := .stopped }) hsending hqueue]
    · rw [healthCause_of_none hgate hsending hqueue]
      rfl

/-- Settles O39: the entry is that of `absorb`, and the request after it starts a recompute. -/
theorem absorptionStoresPeer : Obligations.AbsorptionStoresPeer := by
  intro s n hawake hslot hkind hended
  have hwaiting := healthWaiting_of_slot hslot hkind hended
  refine ⟨fun hidle => ?absorbs, fun hbusy => ?waits⟩
  case absorbs =>
    have hexec : exec .absorption s = .next (requestRecompute (absorb n s)) := by
      simp [exec, execAbsorption, hawake, not_isRecomputing_iff.mpr hidle, hwaiting]
    have hidle' : (absorb n s).verdicts.activity = .idle := hidle
    have hrequest : RecomputeRequested s (requestRecompute (absorb n s)) :=
      recomputeRequested_congr (recomputeRequested_requestRecompute (absorb n s)) rfl rfl rfl rfl rfl
    rw [requestRecompute_of_idle hidle'] at hexec hrequest
    obtain ⟨-, -, hswitches⟩ := hrequest.starts hidle
    refine ⟨_, hexec, ?_, fun id hid => ?_, by simp [absorb], hrequest, startRecompute_activity _,
      fun sw => ?_, by simp, by simp, by simp, by simp, by simp, by simp, by simp⟩
    · rw [startRecompute_view, findPeer_absorb, if_pos rfl, absorbedEntry_eq]
    · rw [startRecompute_view, findPeer_absorb, if_neg (Ne.symm hid)]
    · rw [hswitches sw]
      exact ⟨rfl, by rw [startRecompute_opinions, absorb_opinions], rfl, rfl⟩
  case waits => simp [exec, execAbsorption, isRecomputing_iff.mpr hbusy]

/-- Settles O40: the entry by `findPeer_peerStale` and `findPeer_peerRemoved`, the request by the status it had. -/
theorem peerTimersAgeAndRemoveEntries : Obligations.PeerTimersAgeAndRemoveEntries := by
  intro s e due hawake hfind
  refine ⟨fun htimer => ⟨fun hdue => ?freshEarly, fun hdue => ⟨fun hidle => ?stale, fun hbusy => ?freshHeld⟩⟩,
    fun htimer => ⟨fun hdue => ?expiryEarly, fun hdue => ⟨fun hidle => ?removed, fun hbusy => ?expiryHeld⟩⟩⟩
  case freshEarly =>
    simp [exec, execFreshnessExpiry, freshDue_of_running hfind htimer, isDue_of_not_ranOut hdue]
  case expiryEarly =>
    simp [exec, execExpiryTimerExpiry, expiryDue_of_running hfind htimer, isDue_of_not_ranOut hdue]
  case stale =>
    have hexec : exec (.freshnessExpiry e.id) s = .next (requestRecompute (peerStale e.id s)) := by
      simp [exec, execFreshnessExpiry, hawake, freshDue_of_running hfind htimer, isDue_running.mpr hdue,
        not_isRecomputing_iff.mpr hidle]
    refine ⟨_, hexec, ?_, fun id hid => ?_, requestRecompute_activity _,
      recomputeRequested_congr (recomputeRequested_requestRecompute (peerStale e.id s)) rfl rfl rfl rfl rfl,
      by simp, by simp, by simp, by simp, by simp, by simp⟩
    · rw [requestRecompute_view, findPeer_peerStale, if_pos rfl, hfind]
      rfl
    · rw [requestRecompute_view, findPeer_peerStale, if_neg hid]
  case freshHeld =>
    have hexec : exec (.freshnessExpiry e.id) s = .next (holdExpiry (.freshness e.id) s) := by
      simp [exec, execFreshnessExpiry, hawake, freshDue_of_running hfind htimer, isDue_running.mpr hdue,
        isRecomputing_iff.mpr hbusy]
    rw [hexec]
    exact ⟨fun h => by rw [holdExpiry_of_not_held h], fun h => by rw [holdExpiry_of_held h]⟩
  case removed =>
    have hexec : exec (.expiryTimerExpiry e.id) s = .next (removePeer e.id s) := by
      simp [exec, execExpiryTimerExpiry, hawake, expiryDue_of_running hfind htimer, isDue_running.mpr hdue,
        not_isRecomputing_iff.mpr hidle]
    rw [hexec]
    cases hstatus : e.status with
    | fresh =>
      have hremove : removePeer e.id s = requestRecompute (peerRemoved e.id s) := by
        simp [removePeer, removalRequests_of_find hfind, hstatus]
      rw [hremove]
      refine ⟨_, rfl, ?_, fun id hid => ?_, ⟨fun h => absurd h (requestRecompute_activity _), fun h => by cases h⟩,
        fun _ => recomputeRequested_congr (recomputeRequested_requestRecompute (peerRemoved e.id s)) rfl rfl rfl rfl rfl,
        by simp, by simp, by simp, by simp, by simp, by simp⟩
      · rw [requestRecompute_view, findPeer_peerRemoved, if_pos rfl]
      · rw [requestRecompute_view, findPeer_peerRemoved, if_neg hid]
    | stale =>
      have hremove : removePeer e.id s = peerRemoved e.id s := by
        simp [removePeer, removalRequests_of_find hfind, hstatus]
      rw [hremove]
      refine ⟨_, rfl, ?_, fun id hid => ?_, ⟨fun _ => rfl, fun _ => hidle⟩, nofun,
        by simp, by simp, by simp, by simp, by simp, by simp⟩
      · rw [findPeer_peerRemoved, if_pos rfl]
      · rw [findPeer_peerRemoved, if_neg hid]
  case expiryHeld =>
    have hexec : exec (.expiryTimerExpiry e.id) s = .next (holdExpiry (.removal e.id) s) := by
      simp [exec, execExpiryTimerExpiry, hawake, expiryDue_of_running hfind htimer, isDue_running.mpr hdue,
        isRecomputing_iff.mpr hbusy]
    rw [hexec]
    exact ⟨fun h => by rw [holdExpiry_of_not_held h], fun h => by rw [holdExpiry_of_held h]⟩

/-- Settles O42: every record is that of `completeSwitch`, and the evaluations read the new verdicts alone. -/
theorem completionSetsVerdicts : Obligations.CompletionSetsVerdicts := by
  intro s r hawake hactivity
  obtain ⟨hlanes, hports, hopinions, hctl, hclasses, hmux⟩ := completeRecompute_kept r s
  have hswitch := completeRecompute_switch r s
  have hafter (sw : SwitchId) : (completeSwitches s r).get sw = completeSwitch s r sw :=
    Eight.get_build _ sw
  refine ⟨_, exec_recomputeCompletion hawake hactivity, fun hchanged => ?changed, fun hsame => ?same, hlanes,
    hports, hopinions, hctl, ?switches⟩
  case changed =>
    have hwrite : writeVerdicts r s = issueTest (evaluateAll
        { s with
          verdicts := { s.verdicts with switches := completeSwitches s r, activity := .idle } }) := by
      have hverdicts : verdictsChanged s.verdicts.switches (completeSwitches s r) = true := by
        obtain ⟨sw, hsw⟩ := hchanged
        refine verdictsChanged_iff.mpr ⟨sw, ?_⟩
        rw [hafter, ← (hswitch sw).1]
        exact hsw.symm
      simp [writeVerdicts, hverdicts]
    have hsame : SameSteering
        { s with verdicts := { s.verdicts with switches := completeSwitches s r, activity := .idle } }
        { s with verdicts := (completeRecompute r s).verdicts } :=
      ⟨rfl, rfl, rfl, fun _ => ⟨rfl, rfl⟩, fun sw => by rw [(hswitch sw).1, hafter]⟩
    rw [hclasses, hmux, hwrite]
    exact ⟨hsame.evaluated.classes.symm, hsame.evaluated.mux.symm⟩
  case same =>
    have hwrite : writeVerdicts r s =
        { s with
          verdicts := { s.verdicts with switches := completeSwitches s r, activity := .idle } } := by
      have hverdicts : ¬ verdictsChanged s.verdicts.switches (completeSwitches s r) = true := by
        rw [verdictsChanged_iff]
        rintro ⟨sw, hsw⟩
        rw [hafter, ← (hswitch sw).1, hsame sw] at hsw
        exact hsw rfl
      simp [writeVerdicts, hverdicts]
    rw [hclasses, hmux, hwrite]
    exact ⟨rfl, rfl⟩
  case switches =>
    rintro sw w rfl w' rfl lower
    obtain ⟨hverdict, hcondition, htimer⟩ := hswitch sw
    have hlower : (s.verdicts.switches.get sw).lower.verdict = lower := lesserVerdict_eq _
    rw [hverdict, hcondition, htimer]
    refine ⟨fun h => ?_, fun h => ⟨completeSwitch_condition h, fun hv => ?_, fun hv => ?_⟩⟩
    · rw [completeSwitch_of_condition h]
      exact ⟨rfl, rfl, rfl⟩
    · rw [completeSwitch_of_lesser h hv]
      exact ⟨hlower, rfl⟩
    · rw [completeSwitch_of_unwind h hv]
      unfold SwitchRecord.unwind
      refine ⟨fun hstop hzero => ?_, fun hstop hpos => ?_, fun due hrun => ?_, fun hexp => ?_⟩
      · simp only [hstop, hzero, if_true]
        exact ⟨hlower, rfl⟩
      · simp only [hstop, if_neg hpos.ne']
        exact ⟨hv, rfl⟩
      · simp only [hrun]
        exact ⟨hv, trivial⟩
      · simp only [hexp]
        exact ⟨hlower, rfl⟩

/-- Settles O43: the absorption comes first, and each entry is followed through the held expiries that are left. -/
theorem completionStartsFurtherRecompute : Obligations.CompletionStartsFurtherRecompute := by
  intro s r hawake hactivity
  obtain ⟨-, -, -, hctl, hviewW, hbusW, -⟩ := writeVerdicts_kept r s
  have hwaiting := healthWaiting_writeVerdicts r s
  obtain ⟨hview, hbus⟩ := completeRecompute_view r s
  refine ⟨_, exec_recomputeCompletion hawake hactivity, completeRecompute_again r s, ?held, fun h => ?further,
    fun hagain hnone hempty => ?none, fun n hn => ?absorbed, fun hnone => ?bus, fun id hother => ?entries,
    fun e due hagain hnone hheld hfind htimer hstatus => ?stale⟩
  case held =>
    rw [hview]
    exact releaseHeld_held _
  case further =>
    refine completeRecompute_activity (h.imp_right fun h => ?_)
    obtain ⟨n, hn⟩ := Option.isSome_iff_exists.mp h
    rw [releaseHeld_of_waiting (hwaiting.trans hn)]
  case none =>
    have hrelease : releaseHeld (writeVerdicts r s) = (unheld (writeVerdicts r s), false) := by
      rw [releaseHeld_of_none (hwaiting.trans hnone), hviewW, hempty]
      rfl
    refine ⟨(completeRecompute_of_none hagain (by rw [hrelease])).2.1, ?_⟩
    rw [hview, hrelease, unheld, hviewW, ← hempty]
  case absorbed =>
    obtain ⟨hslot, hentry⟩ := releaseHeld_absorbed (hwaiting.trans hn)
    have hsame : absorbedEntry (writeVerdicts r s) n = absorbedEntry s n := by
      simp only [absorbedEntry, now_of_ctl hctl, settings_of_ctl hctl]
    rw [hbus, hview, hslot, hentry, hbusW, hsame]
    exact ⟨rfl, rfl⟩
  case bus => rw [hbus, releaseHeld_bus_of_none (hwaiting.trans hnone), hbusW]
  case entries =>
    obtain ⟨hs, u, hrelease, hrequest, hfindU, hmem⟩ :=
      releaseHeld_other (s := writeVerdicts r s) (id := id) (by rwa [hwaiting])
    rw [hviewW] at hfindU hmem
    have hfresh := hmem (.freshness id) rfl
    have hremoval := hmem (.removal id) rfl
    rw [hview, hrelease]
    refine ⟨fun hno hno' => ?_, fun e due hfind => ⟨fun hheld htimer => ?_, fun hheld hno htimer => ?_⟩⟩
    · rw [findPeer_applyAllHeld_other (mt hfresh.mp hno) (mt hremoval.mp hno'), hfindU]
    · obtain ⟨hgone, hasked⟩ := applyAllHeld_removal (hfindU.trans hfind)
        (by rw [htimer]; rfl) (hremoval.mpr hheld)
      exact ⟨hgone, fun hstatus => completeRecompute_activity (.inr (hrequest (hasked hstatus)))⟩
    · obtain ⟨hstale, hasked⟩ := applyAllHeld_freshness (hfindU.trans hfind)
        (by rw [htimer]; rfl) (hfresh.mpr hheld) (mt hremoval.mp hno)
      exact ⟨hstale, completeRecompute_activity (.inr (hrequest hasked))⟩
  case stale =>
    have hfindU : findPeer (unheld (writeVerdicts r s)).view.entries e.id = some e := by
      rw [unheld, hviewW]
      exact hfind
    obtain ⟨-, hasked⟩ := applyHeld_removal hfindU (by rw [htimer]; rfl)
    refine (completeRecompute_of_none hagain ?_).2.1
    rw [releaseHeld_of_none (hwaiting.trans hnone), hviewW, hheld, applyAllHeld_cons, hasked, hstatus]
    rfl

/-- Settles O44: the timer is written as expired, and the request after it starts a recompute or sets the again flag. -/
theorem condemnHoldExpiryRequestsRecompute : Obligations.CondemnHoldExpiryRequestsRecompute := by
  intro s sw due hawake htimer
  refine ⟨fun hdue => ?early, fun hdue => ?expires⟩
  case early => simp [exec, execCondemnHoldExpiry, htimer, isDue_of_not_ranOut hdue]
  case expires =>
    have hexec : exec (.condemnHoldExpiry sw) s = .next (requestRecompute
        (s.setSwitch sw { s.verdicts.switches.get sw with holdTimer := .expired })) := by
      simp [exec, execCondemnHoldExpiry, hawake, htimer, isDue_running.mpr hdue]
    refine ⟨_, hexec, ?_, fun x => ?_, fun x hx => ?_, fun _ => requestRecompute_activity _, fun r hr => ?_,
      recomputeRequested_requestRecompute _, by simp, by simp, by simp, by simp, by simp, by simp, by simp⟩
    · simp
    · by_cases hx : x = sw
      · simp [hx]
      · simp [Eight.get_set_other _ _ hx]
    · simp [Eight.get_set_other _ _ hx]
    · rw [requestRecompute_of_recomputing (s := s.setSwitch sw _) hr]
      exact ⟨hr, rfl⟩

end Sys2Proof.Proofs
end

section
/-! PROOFS. The life cycle and the limits: what RSTN, the supply and the expiry of a limit do, block by block. -/

namespace Sys2Proof.Machine

open Safety

variable {s : State}

/-! ## Timers at the entry to HOLD (R159) -/

theorem halted_halt (t : Timer) : Halted t t.halt := by
  refine ⟨fun due h => ?_, fun h => ?_⟩
  · rw [h]
    rfl
  · cases t with
    | running due => cases h
    | stopped => rfl
    | expired => rfl

/-! ## The events of the station controller, case by case -/

theorem exec_rstnFall_of_awake (h : awake s = true) :
    exec .rstnFall s = .next (warmReset { s with ctl := { s.ctl with rstnHigh := false } }) := by
  simp [exec, execRstnFall, h, State.setStation]

theorem exec_rstnRise_of_awake (h : awake s = true) :
    exec .rstnRise s = .next { s with ctl := { s.ctl with rstnHigh := true } } := by
  have hresetting : s.ctl.state ≠ .resetting := fun hr => by
    rw [not_awake_of_resetting hr] at h
    cases h
  simp [exec, execRstnRise, not_hold_of_awake h, hresetting, State.setStation]

theorem exec_rstnFall_of_resetting (h : s.ctl.state = .resetting) :
    exec .rstnFall s = .next { s with ctl := { s.ctl with rstnHigh := false, resetQuiet := 0 } } := by
  simp [exec, execRstnFall, h, not_awake_of_resetting h, State.setStation]

theorem exec_rstnRise_of_resetting (h : s.ctl.state = .resetting) :
    exec .rstnRise s = .next { s with ctl := { s.ctl with rstnHigh := true, resetQuiet := 0 } } := by
  simp [exec, execRstnRise, h, State.setStation]

theorem exec_supplyLow (h : s.ctl.state ≠ .hold) : exec .supplyLow s = .next (enterHold s) := by
  simp [exec, execSupplyLow, h]

theorem exec_supplyGood (pins : Pins) (h : s.ctl.state = .hold) :
    exec (.supplyGood pins) s = .next (coldReset pins s) := by
  simp [exec, execSupplyGood, h]

/-! ## Cold reset, with RSTN high or low (R158) -/

theorem strapId_eq (straps : BitVec 5) :
    strapId straps = if 1 ≤ straps.toNat ∧ straps.toNat ≤ 30 then straps.toNat else 30 := by
  simp [strapId, isStationId]

theorem strapsInvalid_eq (straps : BitVec 5) :
    strapsInvalid straps = decide (straps.toNat = 0 ∨ straps.toNat = 31) := by
  have hlt := straps.isLt
  rw [Bool.eq_iff_iff, decide_eq_true_iff]
  simp only [strapsInvalid, isStationId, Bool.not_eq_true', Bool.and_eq_false_iff, decide_eq_false_iff_not]
  omega

/-- A warm reset at once finds nothing to change at the values of a cold reset but what R157 says of the station. -/
theorem coldReset_eq (pins : Pins) (s : State) :
    coldReset pins s =
      { coldState pins s.pending with
        ctl :=
          { coldStation pins with
            state := if pins.rstn then .unconfigured else .resetting
            configWait :=
              if pins.rstn then startTimer { time := 0#32, micros := 0 } configWaitMs else .stopped } } := by
  cases h : pins.rstn <;> simp only [coldReset, h] <;> rfl

/-! ## The limits (R138, R141) -/

theorem exec_answerLimitExpiry {m : Move} {due : Instant} (hawake : awake s = true)
    (hmove : s.mux.outstanding = some m) (hport : s.mux.port = .await)
    (hlimit : s.mux.answerLimit = .running due) (hdue : RanOut s due) :
    exec .answerLimitExpiry s = .next (answerLimitPassed m s) := by
  simp [exec, execAnswerLimitExpiry, hawake, hmove, hport, hlimit, isDue_running.mpr hdue]

theorem exec_cancelLimitExpiry {due : Instant} (hawake : awake s = true) (hport : s.mux.port = .cancelling)
    (hlimit : s.mux.cancelLimit = .running due) (hdue : RanOut s due) :
    exec .cancelLimitExpiry s = .next (stall s) := by
  simp [exec, execCancelLimitExpiry, hawake, hport, hlimit, isDue_running.mpr hdue]

theorem sendCancel_eq (s : State) :
    sendCancel s =
      { s with
        mux :=
          { s.mux with
            port := .cancelling, answerLimit := .stopped, pins := pinsAfter .cancel s.mux.pins
            cancelLimit := .running (afterMs s 10) } } := by
  simp only [sendCancel, State.setMux, drive_eq_pinsAfter, startTimer_clock]
  rfl

end Sys2Proof.Machine

namespace Sys2Proof.Proofs

open Sys2Proof.Machine Sys2Proof.Safety

/-- Settles O50: each case is the operation that the limit's expiry calls. -/
theorem limitsCancelOrStall : Obligations.LimitsCancelOrStall := by
  intro s m due hawake hmove
  refine ⟨fun hport hlimit => ⟨fun hdue => ?answerEarly, fun hdue hmode => ?stalls, fun hdue hmode => ?cancels⟩,
    fun hport hlimit => ⟨fun hdue => ?cancelEarly, fun hdue => ?stallsToo⟩, fun hport => ?stalled⟩
  case answerEarly => simp [exec, execAnswerLimitExpiry, hlimit, isDue_of_not_ranOut hdue]
  case stalls =>
    rw [exec_answerLimitExpiry hawake hmove hport hlimit hdue, answerLimitPassed, hmode]
    rfl
  case cancels =>
    rw [exec_answerLimitExpiry hawake hmove hport hlimit hdue, answerLimitPassed, hmode]
    exact congrArg Host.Outcome.next (sendCancel_eq s)
  case cancelEarly => simp [exec, execCancelLimitExpiry, hlimit, isDue_of_not_ranOut hdue]
  case stallsToo =>
    rw [exec_cancelLimitExpiry hawake hport hlimit hdue]
    rfl
  case stalled =>
    simp [exec, execAnswerDone, execAnswerRefused, execAnswerCancelled, answerable, hport]

/-- Settles O56 by `warmResetOf_warmReset`. -/
theorem rstnBeginsAndExtendsWarmReset : Obligations.RstnBeginsAndExtendsWarmReset := fun _ =>
  ⟨fun hawake => ⟨⟨_, exec_rstnFall_of_awake hawake, warmResetOf_warmReset _⟩, exec_rstnRise_of_awake hawake⟩,
    fun hresetting => ⟨exec_rstnFall_of_resetting hresetting, exec_rstnRise_of_resetting hresetting⟩⟩

/-- Settles O58, block by block: `enterHold` halts every timer and keeps the rest. -/
theorem supplyLowStopsEverything : Obligations.SupplyLowStopsEverything := by
  intro s
  refine ⟨fun hhold => exec_of_hold hhold (fun _ h => by cases h), fun hstate => ⟨_, exec_supplyLow hstate, ?_⟩⟩
  refine ⟨fun p => ?lane, halted_halt _, rfl, rfl, fun p => ?port, rfl, rfl, ?peers, rfl, rfl, fun sw => ?switch,
    fun c => ?cls, rfl, halted_halt _, halted_halt _, rfl, halted_halt _, halted_halt _, rfl⟩
  case lane =>
    simp only [enterHold, Four.get_map, Lane.hold]
    exact ⟨halted_halt _, trivial⟩
  case port =>
    simp only [enterHold, Four.get_map, PortRecord.hold]
    exact ⟨trivial, fun h => by simp [h], fun u h => ⟨u.halt, by simp [h], halted_halt u⟩⟩
  case peers =>
    simp only [enterHold]
    rw [List.forall₂_map_right_iff, List.forall₂_same]
    exact fun e _ => ⟨rfl, halted_halt _, halted_halt _⟩
  case switch => simp [enterHold, SwitchRecord.hold]
  case cls =>
    simp only [enterHold, Eight.get_map, ClassRecord.hold, Four.get_map]
    exact ⟨trivial, fun p => ⟨fun h => by simp [h], fun u h => ⟨u.halt, by simp [h], halted_halt u⟩⟩⟩

/-- Settles O59: the values of `coldState`, of which a warm reset at once changes the station's own two fields. -/
theorem supplyGoodIsColdReset : Obligations.SupplyGoodIsColdReset := by
  intro s pins
  refine ⟨fun hstate => by simp [exec, execSupplyGood, hstate], fun hstate =>
    ⟨_, exec_supplyGood pins hstate, coldReset_pending s pins, ?_⟩⟩
  rw [coldReset_eq]
  refine ⟨fun p => by simp [coldState, coldLane], rfl, fun p => by simp [coldState, freshPort],
    fun sw => by simp [coldState], rfl, rfl, rfl, rfl, rfl, fun sw => by simp [coldState, freshVerdicts, freshSwitch],
    fun c => by simp [coldState, coldClass, configuredClass], rfl, ?_⟩
  simp only [coldStation, strapId_eq, strapsInvalid_eq]
  rfl

end Sys2Proof.Proofs
end

section
/-! PROOFS. Evaluations: the decision of R116 case by case, and what it makes of the class record and the move queue. -/

namespace Sys2Proof.Machine

open Safety

variable {s : State} {c : ClassId} {k : MoveKind} {b : PortId} {r : ClassRecord}

/-! ## The decision (R116) -/

theorem decideMove_stranded (h : bestPort s r = none) : decideMove s r = .stranded := by
  simp [decideMove, h]

theorem decideMove_place (h : bestPort s r = some b) (hcurrent : r.current = none) :
    decideMove s r = .place b := by
  simp [decideMove, h, hcurrent]

theorem decideMove_best (h : bestPort s r = some b) (hcurrent : r.current = some b) :
    decideMove s r = .stay := by
  simp [decideMove, h, hcurrent]

section Elsewhere

variable {cur : PortId} {tierCur tierB : Nat} (h : bestPort s r = some b) (hcurrent : r.current = some cur)
  (hcur : cur ≠ b)
include h hcurrent hcur

theorem decideMove_evacuate (htier : portTier s r cur = none) : decideMove s r = .evacuate b := by
  simp [decideMove, h, hcurrent, hcur, htier]

theorem decideMove_shed (htier : portTier s r cur = some tierCur) (hb : portTier s r b = some tierB)
    (hlt : tierB < tierCur) : decideMove s r = .shed b := by
  simp [decideMove, h, hcurrent, hcur, htier, hb, hlt]

theorem decideMove_revert (htier : portTier s r cur = some tierCur) (hb : portTier s r b = some tierB)
    (hle : tierCur ≤ tierB) (hhold : 0 < (settings s).revertHold) (hready : (s.ports.get b).revertReady = true) :
    decideMove s r = .revert b := by
  simp [decideMove, h, hcurrent, hcur, htier, hb, Nat.not_lt.mpr hle, hhold, hready]

theorem decideMove_stay (htier : portTier s r cur = some tierCur) (hb : portTier s r b = some tierB)
    (hle : tierCur ≤ tierB) (hoff : (settings s).revertHold = 0 ∨ (s.ports.get b).revertReady = false) :
    decideMove s r = .stay := by
  simp only [decideMove, h, hcurrent, hcur, htier, hb, Nat.not_lt.mpr hle, if_false]
  rcases hoff with hoff | hoff <;> simp [hoff]

end Elsewhere

/-! ## What becomes of the class and the queue (R117 to R119) -/

theorem evaluates_iff : evaluates s c = true ↔
    steers s = true ∧ (s.classes.get c).prefs ≠ [] ∧ (s.classes.get c).status ≠ .moving := by
  simp [evaluates, ClassRecord.inUse, and_assoc]

theorem evaluate_of_not_evaluates (h : evaluates s c = false) : evaluate c s = s := by simp [evaluate, h]

theorem evaluate_of_active (h : evaluates s c = true) (hactive : s.ctl.state = .active) :
    evaluate c s = actInActive c (decideMove s (s.classes.get c)) s := by
  simp [evaluate, h, hactive]

theorem evaluate_of_joining (h : evaluates s c = true) (hjoining : s.ctl.state = .joining) :
    evaluate c s = actInJoining c (decideMove s (s.classes.get c)) s := by
  simp [evaluate, h, hjoining]

/-- The state after an evaluation that writes a status and a queue. -/
def evaluatedTo (s : State) (c : ClassId) (status : ClassStatus) (q : List QueueEntry) : State :=
  { s with
    classes := s.classes.set c { s.classes.get c with status := status }
    mux := { s.mux with queue := q } }

theorem wantNoMove_eq : wantNoMove c s = evaluatedTo s c (s.classes.get c).status (removeEntry c s.mux.queue) := by
  have hset : s.classes.set c { s.classes.get c with status := (s.classes.get c).status } = s.classes :=
    Eight.set_get s.classes c
  rw [evaluatedTo, hset]
  rfl

/-! ## The wanted move in the queue (R120, R129 to R131) -/

theorem placed_insertEntry (e : QueueEntry) (q : List QueueEntry) : Placed e q (insertEntry e q) := by
  induction q with
  | nil => exact ⟨[], [], rfl, rfl, by simp, by simp⟩
  | cons x xs ih =>
    unfold insertEntry
    split
    next hx =>
      exact ⟨[], x :: xs, rfl, rfl, by simp, fun y hy => Option.some.inj hy ▸ (precedes_iff_comesBefore e x).mp hx⟩
    next hx =>
      obtain ⟨front, back, hxs, hq, hfront, hback⟩ := ih
      refine ⟨x :: front, back, by rw [hxs, List.cons_append], by rw [hq, List.cons_append], ?_, hback⟩
      exact List.forall_mem_cons.mpr ⟨fun hbefore => hx ((precedes_iff_comesBefore e x).mpr hbefore), hfront⟩

theorem later_staggerMs (s : State) (k : MoveKind) (t : Time) : later t (staggerMs s k) = startAfter s k t := by
  cases k <;> simp [later, staggerMs, startAfter]

theorem newEntry_eq : newEntry s c k b =
    { cls := c, kind := k, target := b, queuedAt := s.ctl.time, earliestStart := startAfter s k s.ctl.time } := by
  rw [newEntry, later_staggerMs]
  rfl

theorem rekindEntry_eq (e : QueueEntry) : rekindEntry s e k b =
    { e with
      kind := k, target := b
      earliestStart := startAfter s k (if k = .place ∨ k = .evacuate then s.ctl.time else e.queuedAt) } := by
  cases k <;> simp [rekindEntry, later_staggerMs, now, startAfter]

section Split

variable {front back : List QueueEntry} {e : QueueEntry}

theorem findEntry_split (he : e.cls = c) (hothers : ∀ x ∈ front ++ back, x.cls ≠ c) :
    findEntry c (front ++ e :: back) = some e := by
  have hfront : front.find? (fun x => decide (x.cls = c)) = none := by
    simpa using fun x hx => hothers x (List.mem_append_left _ hx)
  simp [findEntry, List.find?_append, hfront, he]

theorem replaceEntry_split (e' : QueueEntry) (he : e.cls = e'.cls) (hothers : ∀ x ∈ front ++ back, x.cls ≠ e'.cls) :
    replaceEntry e' (front ++ e :: back) = front ++ e' :: back := by
  have hkept (l : List QueueEntry) (hl : ∀ x ∈ l, x.cls ≠ e'.cls) :
      l.map (fun x => if x.cls = e'.cls then e' else x) = l :=
    (List.map_congr_left fun x hx => if_neg (hl x hx)).trans l.map_id
  rw [replaceEntry, List.map_append, List.map_cons, if_pos he, hkept front, hkept back]
  · exact fun x hx => hothers x (List.mem_append_right _ hx)
  · exact fun x hx => hothers x (List.mem_append_left _ hx)

theorem removeEntry_split (he : e.cls = c) (hothers : ∀ x ∈ front ++ back, x.cls ≠ c) :
    removeEntry c (front ++ e :: back) = front ++ back := by
  have hkept : removeEntry c (front ++ back) = front ++ back :=
    List.filter_eq_self.mpr fun x hx => decide_eq_true (hothers x hx)
  rw [← hkept]
  simp [removeEntry, he]

end Split

theorem wants_wantedQueue (s : State) (c : ClassId) (k : MoveKind) (b : PortId) :
    Wants s c k b (wantedQueue s c k b) where
  fresh hnone := by
    rw [← newEntry_eq, wantedQueue, (findEntry_none c _).mpr hnone]
    exact placed_insertEntry _ _
  known front e back hqueue he hothers := by
    rw [wantedQueue, hqueue, findEntry_split he hothers]
    refine ⟨fun hkind => ?_, fun hkind e' he' => ⟨fun hrank => ?_, fun hrank => ?_⟩⟩
    · simp only [if_pos hkind]
      exact replaceEntry_split _ rfl fun x hx => he ▸ hothers x hx
    · simp only [if_neg hkind, if_pos hrank, he', ← rekindEntry_eq]
      exact replaceEntry_split _ rfl fun x hx => he ▸ hothers x hx
    · simp only [if_neg hkind, if_neg hrank, he', ← rekindEntry_eq, removeEntry_split he hothers]
      exact placed_insertEntry _ _

/-! ## Evaluations by their decision -/

section Decided

variable (h : evaluates s c = true)
include h

theorem evaluate_place (hstate : s.ctl.state = .active ∨ s.ctl.state = .joining)
    (hd : decideMove s (s.classes.get c) = .place b) :
    evaluate c s = evaluatedTo s c .unplaced (wantedQueue s c .place b) := by
  rcases hstate with hstate | hstate
  · rw [evaluate_of_active h hstate, hd]
    rfl
  · rw [evaluate_of_joining h hstate, hd]
    rfl

theorem evaluate_stay (hstate : s.ctl.state = .active ∨ s.ctl.state = .joining)
    (hd : decideMove s (s.classes.get c) = .stay) :
    evaluate c s = evaluatedTo s c .placed (removeEntry c s.mux.queue) := by
  rcases hstate with hstate | hstate
  · rw [evaluate_of_active h hstate, hd]
    rfl
  · rw [evaluate_of_joining h hstate, hd]
    rfl

theorem evaluate_stranded_active (hstate : s.ctl.state = .active)
    (hd : decideMove s (s.classes.get c) = .stranded) :
    evaluate c s = evaluatedTo s c .stranded (removeEntry c s.mux.queue) := by
  rw [evaluate_of_active h hstate, hd]
  rfl

theorem evaluate_stranded_joining (hstate : s.ctl.state = .joining)
    (hd : decideMove s (s.classes.get c) = .stranded) :
    evaluate c s = evaluatedTo s c (s.classes.get c).status (removeEntry c s.mux.queue) := by
  rw [evaluate_of_joining h hstate, hd]
  exact wantNoMove_eq

theorem evaluate_moves (hstate : s.ctl.state = .active)
    (hd : decideMove s (s.classes.get c) = .evacuate b ∧ k = .evacuate ∨
      decideMove s (s.classes.get c) = .shed b ∧ k = .shed ∨
      decideMove s (s.classes.get c) = .revert b ∧ k = .revert) :
    evaluate c s = evaluatedTo s c .placed (wantedQueue s c k b) := by
  rw [evaluate_of_active h hstate]
  rcases hd with ⟨hd, hk⟩ | ⟨hd, hk⟩ | ⟨hd, hk⟩ <;> rw [hd, hk] <;> rfl

theorem evaluate_waits (hstate : s.ctl.state = .joining)
    (hd : decideMove s (s.classes.get c) = .evacuate b ∨ decideMove s (s.classes.get c) = .shed b ∨
      decideMove s (s.classes.get c) = .revert b) :
    evaluate c s = s := by
  rw [evaluate_of_joining h hstate]
  rcases hd with hd | hd | hd <;> rw [hd] <;> rfl

end Decided

end Sys2Proof.Machine

namespace Sys2Proof.Proofs

open Sys2Proof.Machine Sys2Proof.Safety

/-- Settles O46: each case of the statement is a case of `decideMove`, acted on in ACTIVE and in JOINING. -/
theorem evaluationDecidesMove : Obligations.EvaluationDecidesMove := by
  intro s c r t hr hprefs hmoving _ ht becomes
  subst hr ht
  have hevaluates (hstate : s.ctl.state = .active ∨ s.ctl.state = .joining) : evaluates s c = true :=
    evaluates_iff.mpr ⟨steers_iff.mpr hstate.symm, hprefs, hmoving⟩
  have hwants {status k b} (h : evaluate c s = evaluatedTo s c status (wantedQueue s c k b)) :
      becomes status ∧ Wants s c k b (evaluate c s).mux.queue := by
    refine ⟨?_, ?_⟩
    · show evaluate c s = _
      rw [h]
      rfl
    · rw [h]
      exact wants_wantedQueue s c k b
  have hnone {status} (h : evaluate c s = evaluatedTo s c status (removeEntry c s.mux.queue)) :
      becomes status ∧ WantsNone s c (evaluate c s).mux.queue := by
    refine ⟨?_, ?_⟩
    · show evaluate c s = _
      rw [h]
      rfl
    · rw [h]
      rfl
  refine ⟨fun hstate => ⟨fun hbest => ?_, fun b hbest => ⟨fun hcur => ?_, fun hcur => ?_, fun cur hcur hne =>
      ⟨fun htier => ?_, fun tierCur tierB htier hb => ⟨fun hlt => ?_, fun hle hhold hready => ?_, fun hle hoff => ?_⟩⟩⟩⟩,
    fun hstate => ⟨fun hbest => ?_, fun b hbest => ⟨fun hcur => ?_, fun hcur => ?_, fun cur hcur hne =>
      ⟨fun htier => ?_, fun tierCur tierB htier hb => ⟨fun hmoves => ?_, fun hle hoff => ?_⟩⟩⟩⟩⟩
  · exact hnone (evaluate_stranded_active (hevaluates (.inl hstate)) hstate (decideMove_stranded hbest))
  · exact hwants (evaluate_place (hevaluates (.inl hstate)) (.inl hstate) (decideMove_place hbest hcur))
  · exact hnone (evaluate_stay (hevaluates (.inl hstate)) (.inl hstate) (decideMove_best hbest hcur))
  · exact hwants (evaluate_moves (hevaluates (.inl hstate)) hstate
      (.inl ⟨decideMove_evacuate hbest hcur hne htier, rfl⟩))
  · exact hwants (evaluate_moves (hevaluates (.inl hstate)) hstate
      (.inr (.inl ⟨decideMove_shed hbest hcur hne htier hb hlt, rfl⟩)))
  · exact hwants (evaluate_moves (hevaluates (.inl hstate)) hstate
      (.inr (.inr ⟨decideMove_revert hbest hcur hne htier hb hle hhold hready, rfl⟩)))
  · exact hnone (evaluate_stay (hevaluates (.inl hstate)) (.inl hstate)
      (decideMove_stay hbest hcur hne htier hb hle hoff))
  · exact hnone (evaluate_stranded_joining (hevaluates (.inr hstate)) hstate (decideMove_stranded hbest))
  · exact hwants (evaluate_place (hevaluates (.inr hstate)) (.inr hstate) (decideMove_place hbest hcur))
  · exact hnone (evaluate_stay (hevaluates (.inr hstate)) (.inr hstate) (decideMove_best hbest hcur))
  · exact evaluate_waits (hevaluates (.inr hstate)) hstate (.inl (decideMove_evacuate hbest hcur hne htier))
  · by_cases hlt : tierB < tierCur
    · exact evaluate_waits (hevaluates (.inr hstate)) hstate
        (.inr (.inl (decideMove_shed hbest hcur hne htier hb hlt)))
    · obtain ⟨hhold, hready⟩ := hmoves.resolve_left hlt
      exact evaluate_waits (hevaluates (.inr hstate)) hstate
        (.inr (.inr (decideMove_revert hbest hcur hne htier hb (Nat.not_lt.mp hlt) hhold hready)))
  · exact hnone (evaluate_stay (hevaluates (.inr hstate)) (.inr hstate)
      (decideMove_stay hbest hcur hne htier hb hle hoff))

end Sys2Proof.Proofs
end

section
/-! PROOFS. The issue test, the end of a move, and MRDY: what each leaves of the classes and of the steering port. -/

namespace Sys2Proof.Machine

open Safety

variable {s t : State} {c : ClassId} {e : QueueEntry}

/-! ## The issue test (R135, R136) -/

theorem entryEligible_iff : entryEligible s e = true ↔
    (s.ctl.time - e.earliestStart).toNat < 2 ^ 31 ∧ (s.ctl.state = .joining → e.kind = .place) := by
  rw [entryEligible, Bool.and_eq_true]
  exact and_congr decide_eq_true_iff (by simp [imp_iff_not_or])

theorem issuable_eq_some : issuable s = some e ↔
    s.mux.port = .ready ∧ steers s = true ∧ s.mux.queue.find? (entryEligible s) = some e := by
  unfold issuable
  split
  next h =>
    obtain ⟨hport, hsteers⟩ := Bool.and_eq_true_iff.mp h
    simp [of_decide_eq_true hport, hsteers]
  next h => simpa using fun hport hsteers => absurd (by simp [hport, hsteers]) h

theorem issueTest_of_issuable (h : issuable s = some e) : issueTest s = issueEntry e s := by
  simp [issueTest, h]

theorem issueTest_of_none (h : issuable s = none) : issueTest s = s := by simp [issueTest, h]

/-- The five items of R136. -/
theorem issueEntry_eq (e : QueueEntry) (s : State) :
    issueEntry e s =
      { s with
        classes := s.classes.set e.cls { s.classes.get e.cls with status := .moving, target := some e.target }
        mux :=
          { s.mux with
            queue := s.mux.queue.filter fun x => x.cls ≠ e.cls
            outstanding := some { cls := e.cls, target := e.target, mode := e.kind.mode }
            pins := pinsAfter (.request { cls := e.cls, target := e.target, mode := e.kind.mode }) s.mux.pins
            port := .await
            answerLimit := .running (afterMs s (if e.kind = .place ∨ e.kind = .evacuate then 10
              else (settings s).drainLimit * 10)) } } := by
  simp only [issueEntry, drive_eq_pinsAfter, startTimer_clock]
  cases hk : e.kind <;> simp [QueueEntry.move, MoveKind.mode, hk, forcedLimitMs, removeEntry]

theorem issueTest_outcome (s : State) :
    (issuable s = none ∧ issueTest s = s) ∨ ∃ e, issuable s = some e ∧ issueTest s = issueEntry e s := by
  cases h : issuable s with
  | none => exact .inl ⟨rfl, issueTest_of_none h⟩
  | some e => exact .inr ⟨e, rfl, issueTest_of_issuable h⟩

theorem issueTest_cancelLimit (s : State) : (issueTest s).mux.cancelLimit = s.mux.cancelLimit := by
  rcases issueTest_outcome s with ⟨-, h⟩ | ⟨e, -, h⟩ <;> rw [h]
  rfl

/-- A READY port with no move outstanding is left so by the issue test, or is in AWAIT with the move it issued. -/
theorem readyOrIssued_issueTest (hctl : t.ctl = s.ctl) (hport : t.mux.port = .ready)
    (hmove : t.mux.outstanding = none) : ReadyOrIssued s (issueTest t) := by
  rcases issueTest_outcome t with ⟨-, h⟩ | ⟨e, hissuable, h⟩
  · rw [h]
    exact .inl ⟨hport, hmove⟩
  · obtain ⟨-, -, hfind⟩ := issuable_eq_some.mp hissuable
    obtain ⟨htime, hplace⟩ := entryEligible_iff.mp (List.find?_some hfind)
    rw [hctl] at htime hplace
    rw [h, issueEntry_eq]
    refine .inr ⟨rfl, e, htime, hplace, rfl, ?_, ?_, ?_⟩
    · simp
    · simp
    · simp

/-! ## The end of a move (R137, R139) -/

theorem finishMove_eq (c : ClassId) (r : ClassRecord) (s : State) :
    finishMove c r s = issueTest (evaluate c (moveEnded s c r)) := rfl

theorem readyOrIssued_finishMove (c : ClassId) (r : ClassRecord) (s : State) :
    ReadyOrIssued s (finishMove c r s) := by
  have hmux := evaluate_mux (moveEnded s c r) c
  rw [finishMove_eq]
  exact readyOrIssued_issueTest (evaluate_ctl _ _) (by rw [hmux]; rfl) (by rw [hmux]; rfl)

theorem finishMove_cancelLimit (c : ClassId) (r : ClassRecord) (s : State) :
    (finishMove c r s).mux.cancelLimit = .stopped := by
  rw [finishMove_eq, issueTest_cancelLimit, evaluate_mux]
  rfl

/-- What the end of a move leaves of a class record: the one written for its class, the one it had for the others. -/
theorem finishMove_record (c : ClassId) (r : ClassRecord) (s : State) (k : ClassId) :
    ((finishMove c r s).classes.get k).prefs = (if k = c then r else s.classes.get k).prefs ∧
      ((finishMove c r s).classes.get k).current = (if k = c then r else s.classes.get k).current ∧
      ((finishMove c r s).classes.get k).barred = (if k = c then r else s.classes.get k).barred := by
  rw [← Eight.get_set]
  exact finishMove_kept s c r k

theorem remain_eq (r : ClassRecord) : r.remain =
    { r with status := if r.current = none then .unplaced else .placed, target := none } := by
  cases h : r.current <;> simp [ClassRecord.remain, h]

theorem answerable_of_waiting (hport : s.mux.port = .await ∨ s.mux.port = .cancelling) :
    answerable s = s.mux.outstanding := by
  rcases hport with hport | hport <;> simp [answerable, hport]

/-! ## MRDY (R142, R143) -/

/-- The steering port controller after MRDY fell, before the evaluations. -/
def offlineMux (m : Mux) : Mux :=
  { m with
    mrdy := false, port := .offline, outstanding := none, answerLimit := .stopped, cancelLimit := .stopped }

theorem abandonMove_of_some {m : Move} (h : s.mux.outstanding = some m) :
    abandonMove (recordMrdy false s) = evaluate m.cls
      { s with
        classes := s.classes.set m.cls
          { s.classes.get m.cls with status := .unplaced, current := none, target := none }
        mux := offlineMux s.mux } := by
  have hrecord : (recordMrdy false s).mux.outstanding = some m := h
  unfold abandonMove
  rw [hrecord]
  rfl

theorem abandonMove_of_none (h : s.mux.outstanding = none) :
    abandonMove (recordMrdy false s) = { s with mux := offlineMux s.mux } := by
  have hrecord : (recordMrdy false s).mux.outstanding = none := h
  unfold abandonMove
  rw [hrecord]
  rfl

theorem goOffline_eq (s : State) : goOffline s =
    if s.mux.port = .stalled then evaluateAll (abandonMove (recordMrdy false s))
    else abandonMove (recordMrdy false s) := rfl

theorem goOffline_kept (s : State) (k : ClassId) :
    ((goOffline s).classes.get k).prefs = ((abandonMove (recordMrdy false s)).classes.get k).prefs ∧
      ((goOffline s).classes.get k).current = ((abandonMove (recordMrdy false s)).classes.get k).current ∧
      ((goOffline s).classes.get k).target = ((abandonMove (recordMrdy false s)).classes.get k).target ∧
      ((goOffline s).classes.get k).barred = ((abandonMove (recordMrdy false s)).classes.get k).barred := by
  rw [goOffline_eq]
  split
  · exact evaluateAll_kept _ k
  · exact ⟨rfl, rfl, rfl, rfl⟩

theorem abandonMove_mux (s : State) : (abandonMove (recordMrdy false s)).mux =
    { offlineMux s.mux with queue := (abandonMove (recordMrdy false s)).mux.queue } := by
  cases h : s.mux.outstanding with
  | none => rw [abandonMove_of_none h]
  | some m => rw [abandonMove_of_some h, evaluate_mux]

theorem goOffline_mux (s : State) :
    (goOffline s).mux = { offlineMux s.mux with queue := (goOffline s).mux.queue } := by
  rw [goOffline_eq]
  split
  · rw [evaluateAll_mux, abandonMove_mux]
  · exact abandonMove_mux s

theorem abandonMove_record (s : State) (k : ClassId) :
    ((abandonMove (recordMrdy false s)).classes.get k).prefs = (s.classes.get k).prefs ∧
      ((abandonMove (recordMrdy false s)).classes.get k).barred = (s.classes.get k).barred ∧
      (∀ m, s.mux.outstanding = some m → m.cls = k →
        ((abandonMove (recordMrdy false s)).classes.get k).current = none ∧
        ((abandonMove (recordMrdy false s)).classes.get k).target = none) ∧
      ((∀ m, s.mux.outstanding = some m → m.cls ≠ k) →
        ((abandonMove (recordMrdy false s)).classes.get k).current = (s.classes.get k).current) := by
  cases h : s.mux.outstanding with
  | none =>
    rw [abandonMove_of_none h]
    exact ⟨rfl, rfl, fun _ hm => (by cases hm), fun _ => rfl⟩
  | some m =>
    obtain ⟨hprefs, hcurrent, htarget, hbarred⟩ := evaluate_kept
      { s with
        classes := s.classes.set m.cls
          { s.classes.get m.cls with status := .unplaced, current := none, target := none }
        mux := offlineMux s.mux } m.cls k
    rw [abandonMove_of_some h, hprefs, hcurrent, htarget, hbarred]
    by_cases hk : k = m.cls
    · subst hk
      simp
    · refine ⟨by simp [Eight.get_set, hk], by simp [Eight.get_set, hk], fun m' hm' hcls => ?_,
        fun _ => by simp [Eight.get_set, hk]⟩
      exact absurd (Option.some.inj hm' ▸ hcls) (Ne.symm hk)

theorem abandonMove_onlySteers (s : State) : OnlySteers s (abandonMove s) := by
  unfold abandonMove
  split
  · exact onlySteers_trans (by constructor <;> rfl) (evaluate_onlySteers _ _)
  · constructor <;> rfl

theorem goOffline_onlySteers (s : State) : OnlySteers (recordMrdy false s) (goOffline s) := by
  rw [goOffline_eq]
  split
  · exact onlySteers_trans (abandonMove_onlySteers _) (evaluateAll_onlySteers _)
  · exact abandonMove_onlySteers _

/-- The state between the items of R143 and the evaluations. -/
def unplacedAll (s : State) : State :=
  { s with
    classes := s.classes.map fun r =>
      if r.prefs = [] then r else { r with status := .unplaced, current := none, target := none }
    mux :=
      { s.mux with
        mrdy := true, port := .ready, queue := [], outstanding := none, answerLimit := .stopped
        cancelLimit := .stopped } }

theorem replaceAll_recordMrdy (s : State) : replaceAll (recordMrdy true s) = unplacedAll s := by
  have hrecord : (fun r : ClassRecord => if r.inUse then r.unplace else r) = fun r =>
      if r.prefs = [] then r else { r with status := .unplaced, current := none, target := none } := by
    funext r
    by_cases h : r.prefs = [] <;> simp [ClassRecord.inUse, h, ClassRecord.unplace]
  unfold replaceAll unplacedAll
  rw [hrecord]
  rfl

theorem unplacedAll_unused {k : ClassId} (h : (s.classes.get k).prefs = []) :
    (unplacedAll s).classes.get k = s.classes.get k := by simp [unplacedAll, h]

theorem unplacedAll_inUse {k : ClassId} (h : (s.classes.get k).prefs ≠ []) :
    (unplacedAll s).classes.get k =
      { s.classes.get k with status := .unplaced, current := none, target := none } := by simp [unplacedAll, h]

theorem comeOnline_eq (s : State) : comeOnline s =
    { issueTest (evaluateAll (unplacedAll s)) with
      mux :=
        { (issueTest (evaluateAll (unplacedAll s))).mux with
          alertReleased := alertLow s && !alertLow (unplacedAll s) &&
            alertLow (issueTest (evaluateAll (unplacedAll s))) } } := by
  simp only [comeOnline, replaceAll_recordMrdy]
  rfl

/-- After the items of R143 a silenced station alone drives ALRTN low (R164). -/
theorem alertLow_unplacedAll (hstate : s.ctl.state ≠ .hold) : alertLow (unplacedAll s) = s.ctl.silenced := by
  have hstranded : ¬ ∃ c, ((unplacedAll s).classes.get c).prefs ≠ [] ∧
      ((unplacedAll s).classes.get c).status = .stranded := by
    rintro ⟨c, hprefs, hstatus⟩
    by_cases h : (s.classes.get c).prefs = []
    · rw [unplacedAll_unused h] at hprefs
      exact hprefs h
    · rw [unplacedAll_inUse h] at hstatus
      cases hstatus
  rw [Bool.eq_iff_iff, alertLow_iff]
  refine ⟨fun ⟨_, h⟩ => ?_, fun h => ⟨hstate, .inr (.inl h)⟩⟩
  rcases h with h | h | h | ⟨h, -⟩
  · exact absurd h hstranded
  · exact h
  · cases h
  · cases h

theorem alertLow_congr (hstate : t.ctl = s.ctl) (hclasses : t.classes = s.classes)
    (hport : t.mux.port = s.mux.port) : alertLow t = alertLow s := by
  simp [alertLow, hstate, hclasses, hport]

/-! ## Evaluations of classes that have no port (R143) -/

/-- Every class in use has no current port, and every queue entry is a PLACE of a class in use. -/
structure OnlyPlaces (s : State) : Prop where
  unplaced : ∀ k, (s.classes.get k).prefs ≠ [] → (s.classes.get k).current = none
  entries : ∀ e ∈ s.mux.queue, e.kind = .place ∧ (s.classes.get e.cls).prefs ≠ []

theorem onlyPlaces_unplacedAll (s : State) : OnlyPlaces (unplacedAll s) where
  unplaced k hk := by
    by_cases h : (s.classes.get k).prefs = []
    · rw [unplacedAll_unused h] at hk
      exact absurd h hk
    · rw [unplacedAll_inUse h]
  entries e he := by cases he

theorem onlyPlaces_evaluatedTo (h : OnlyPlaces s) (status : ClassStatus) {q : List QueueEntry}
    (hq : ∀ e ∈ q, e.kind = .place ∧ (s.classes.get e.cls).prefs ≠ []) :
    OnlyPlaces (evaluatedTo s c status q) := by
  have hkept (k : ClassId) : ((evaluatedTo s c status q).classes.get k).prefs = (s.classes.get k).prefs ∧
      ((evaluatedTo s c status q).classes.get k).current = (s.classes.get k).current := by
    by_cases hk : k = c <;> simp [evaluatedTo, Eight.get_set, hk]
  constructor
  · intro k hk
    rw [(hkept k).1] at hk
    rw [(hkept k).2, h.unplaced k hk]
  · intro e he
    rw [(hkept _).1]
    exact hq e he

/-- With no current port an evaluation wants a PLACE, or finds no usable port. -/
theorem onlyPlaces_evaluate (h : OnlyPlaces s) (c : ClassId) : OnlyPlaces (evaluate c s) := by
  cases hev : evaluates s c with
  | false =>
    rw [evaluate_of_not_evaluates hev]
    exact h
  | true =>
    obtain ⟨hsteers, hprefs, -⟩ := evaluates_iff.mp hev
    have hremoved : ∀ e ∈ removeEntry c s.mux.queue, e.kind = .place ∧ (s.classes.get e.cls).prefs ≠ [] :=
      fun e he => h.entries e ((mem_removeEntry c e _).mp he).1
    cases hbest : bestPort s (s.classes.get c) with
    | none =>
      rcases steers_iff.mp hsteers with hstate | hstate
      · rw [evaluate_stranded_joining hev hstate (decideMove_stranded hbest)]
        exact onlyPlaces_evaluatedTo h _ hremoved
      · rw [evaluate_stranded_active hev hstate (decideMove_stranded hbest)]
        exact onlyPlaces_evaluatedTo h _ hremoved
    | some b =>
      rw [evaluate_place hev (steers_iff.mp hsteers).symm (decideMove_place hbest (h.unplaced c hprefs))]
      refine onlyPlaces_evaluatedTo h _ fun e he => ?_
      rcases mem_wantedQueue s he with ⟨hcls, hkind, -⟩ | ⟨he, -⟩
      · exact ⟨hkind, hcls ▸ hprefs⟩
      · exact h.entries e he

theorem onlyPlaces_evaluateAll (h : OnlyPlaces s) : OnlyPlaces (evaluateAll s) :=
  evaluateAll_keeps s OnlyPlaces (fun c _ ht => onlyPlaces_evaluate ht c) h

theorem evaluate_unused {k : ClassId} (h : (s.classes.get k).prefs = []) (c : ClassId) :
    (evaluate c s).classes.get k = s.classes.get k := by
  by_cases hk : k = c
  · subst hk
    rw [evaluate_of_not_evaluates]
    exact Bool.eq_false_iff.mpr fun hev => (evaluates_iff.mp hev).2.1 h
  · exact evaluate_other s hk

theorem evaluateAll_unused {k : ClassId} (h : (s.classes.get k).prefs = []) :
    (evaluateAll s).classes.get k = s.classes.get k :=
  evaluateAll_keeps s (fun t => t.classes.get k = s.classes.get k)
    (fun c t ht => (evaluate_unused (by rw [ht]; exact h) c).trans ht) rfl

theorem issueTest_unused (hplaces : OnlyPlaces s) {k : ClassId} (h : (s.classes.get k).prefs = []) :
    (issueTest s).classes.get k = s.classes.get k := by
  rcases issueTest_outcome s with ⟨-, hissue⟩ | ⟨e, hissuable, hissue⟩ <;> rw [hissue]
  obtain ⟨-, -, hfind⟩ := issuable_eq_some.mp hissuable
  have hne : k ≠ e.cls := fun hk => (hplaces.entries e (List.mem_of_find?_eq_some hfind)).2 (hk ▸ h)
  exact Eight.get_set_other _ _ hne

theorem mem_issueTest_queue (h : e ∈ (issueTest s).mux.queue) : e ∈ s.mux.queue := by
  rcases issueTest_queue s with hq | ⟨c, hq⟩ <;> rw [hq] at h
  · exact h
  · exact ((mem_removeEntry c e _).mp h).1

theorem evaluateAll_of_not_steers (h : steers s = false) : evaluateAll s = s := by
  refine evaluateAll_keeps s (fun t => t = s) (fun c t ht => ?_) rfl
  rw [ht, evaluate_of_not_evaluates]
  exact Bool.eq_false_iff.mpr fun hev => by
    rw [(evaluates_iff.mp hev).1] at h
    cases h

end Sys2Proof.Machine

namespace Sys2Proof.Proofs

open Sys2Proof.Machine Sys2Proof.Safety

/-- Settles O47: the evaluation and the issue test keep lists, current ports and barred sets. -/
theorem backoffExpiryUnbars : Obligations.BackoffExpiryUnbars := by
  intro s c p due hawake htimer
  refine ⟨fun hdue => ?early, fun hdue => ?expires⟩
  case early => simp [exec, execBackoffExpiry, ClassRecord.backoffDue, htimer, isDue_of_not_ranOut hdue]
  case expires =>
    have hexec : exec (.backoffExpiry c p) s =
        .next (issueTest (evaluate c (s.setClass c ((s.classes.get c).unbar p)))) := by
      simp [exec, execBackoffExpiry, hawake, ClassRecord.backoffDue, htimer, isDue_running.mpr hdue]
    have hkept (k : ClassId) := issueTest_kept (evaluate c (s.setClass c ((s.classes.get c).unbar p))) k
    have hevaluated (k : ClassId) := evaluate_kept (s.setClass c ((s.classes.get c).unbar p)) c k
    refine ⟨_, hexec, rfl, ?_, fun k hk => ?_, fun k => ⟨?_, ?_⟩, ?_⟩
    · rw [(hkept c).2.2, (hevaluated c).2.2.2]
      simp [ClassRecord.unbar]
    · rw [(hkept k).2.2, (hevaluated k).2.2.2]
      simp [Eight.get_set, hk]
    · rw [(hkept k).1, (hevaluated k).1]
      by_cases hk : k = c <;> simp [Eight.get_set, hk, ClassRecord.unbar]
    · rw [(hkept k).2.1, (hevaluated k).2.1]
      by_cases hk : k = c <;> simp [Eight.get_set, hk, ClassRecord.unbar]
    · exact onlySteers_trans (onlySteers_trans (by constructor <;> rfl) (evaluate_onlySteers c _))
        (issueTest_onlySteers _)

/-- Settles O48: the entries of `front` are not eligible, so the test finds the one after them, or none. -/
theorem issueSendsFirstEligibleEntry : Obligations.IssueSendsFirstEligibleEntry := by
  intro s front back hport hstate hfront
  have hsteers : steers s = true := steers_iff.mpr hstate
  have hnone : front.find? (entryEligible s) = none := by
    refine List.find?_eq_none.mpr fun x hx helig => ?_
    obtain ⟨htime, hplace⟩ := entryEligible_iff.mp helig
    rcases hfront x hx with hlate | ⟨hjoining, hkind⟩
    · exact hlate htime
    · exact hkind (hplace hjoining)
  refine ⟨fun e hqueue htime hplace => ?_, fun hqueue => ?_⟩
  · have hissuable : issuable s = some e := by
      refine issuable_eq_some.mpr ⟨hport, hsteers, ?_⟩
      rw [hqueue, List.find?_append, hnone, Option.none_or, List.find?_cons_of_pos]
      exact entryEligible_iff.mpr ⟨htime, hplace⟩
    show Host.Outcome.next (issueTest s) = _
    rw [issueTest_of_issuable hissuable, issueEntry_eq]
  · show Host.Outcome.next (issueTest s) = _
    rw [issueTest_of_none]
    refine Option.eq_none_iff_forall_ne_some.mpr fun e he => ?_
    obtain ⟨-, -, hfind⟩ := issuable_eq_some.mp he
    rw [hqueue, hnone] at hfind
    cases hfind

/-- Settles O49: each answer is `finishMove` with the record that R137 or R139 writes. -/
theorem answerEndsMove : Obligations.AnswerEndsMove := by
  intro s m r hawake hmove hport hr
  have hanswerable : answerable s = some m := (answerable_of_waiting hport).trans hmove
  subst hr
  refine ⟨?done, ?refused, fun hcancelling => ?cancelled, fun hawait => ?ignored⟩
  case done =>
    have hexec : exec .answerDone s = .next (finishMove m.cls ((s.classes.get m.cls).arrive m.target) s) := by
      simp [exec, execAnswerDone, hawake, hanswerable]
    have hrecord := finishMove_record m.cls ((s.classes.get m.cls).arrive m.target) s
    refine ⟨_, hexec, rfl, readyOrIssued_finishMove .., ?_, fun k hk => ?_, fun k => ⟨?_, ?_⟩,
      finishMove_cancelLimit .., finishMove_onlySteers ..⟩
    · rw [(hrecord m.cls).2.1, if_pos rfl]
      rfl
    · rw [(hrecord k).2.1, if_neg hk]
    · rw [(hrecord k).2.2]
      split <;> simp_all [ClassRecord.arrive]
    · rw [(hrecord k).1]
      split <;> simp_all [ClassRecord.arrive]
  case refused =>
    have hexec : exec .answerRefused s =
        .next (finishMove m.cls ((s.classes.get m.cls).remain.bar m.target (backoffTimer s)) s) := by
      simp [exec, execAnswerRefused, hawake, hanswerable]
    rw [remain_eq, ClassRecord.bar, backoffTimer, startTimer_clock] at hexec
    have hrecord := finishMove_record m.cls
      { s.classes.get m.cls with
        status := if (s.classes.get m.cls).current = none then .unplaced else .placed
        target := none
        barred := (s.classes.get m.cls).barred.set m.target
          (some (.running (afterMs s ((settings s).refuseBackoff * 100)))) } s
    refine ⟨_, hexec, rfl, readyOrIssued_finishMove .., ?_, fun k hk => ?_, fun k => ⟨?_, ?_⟩,
      finishMove_cancelLimit .., finishMove_onlySteers ..⟩
    · rw [(hrecord m.cls).2.2, if_pos rfl]
    · rw [(hrecord k).2.2, if_neg hk]
    · rw [(hrecord k).2.1]
      split <;> simp_all
    · rw [(hrecord k).1]
      split <;> simp_all
  case cancelled =>
    have hexec : exec .answerCancelled s = .next (finishMove m.cls (s.classes.get m.cls).remain s) := by
      simp [exec, execAnswerCancelled, hawake, hcancelling, hmove]
    rw [remain_eq] at hexec
    refine ⟨_, hexec, rfl, readyOrIssued_finishMove .., fun k => ?_, finishMove_cancelLimit ..,
      finishMove_onlySteers ..⟩
    obtain ⟨hprefs, hcurrent, hbarred⟩ := finishMove_record m.cls
      { s.classes.get m.cls with
        status := if (s.classes.get m.cls).current = none then .unplaced else .placed, target := none } s k
    rw [hprefs, hcurrent, hbarred]
    split <;> simp_all
  case ignored => simp [exec, execAnswerCancelled, hawait]

/-- Settles O52: the abandoned move, then the evaluations, which keep all but status and queue. -/
theorem mrdyFallAbandonsMove : Obligations.MrdyFallAbandonsMove := by
  intro s
  refine ⟨fun hawake => ?falls, fun hresetting => ?_⟩
  case falls =>
    have hexec : exec .mrdyFall s = .next (goOffline s) := by simp [exec, execMrdyFall, hawake]
    have hmux := goOffline_mux s
    refine ⟨_, hexec, by rw [hmux]; rfl, by rw [hmux]; rfl, by rw [hmux]; rfl, by rw [hmux]; rfl,
      by rw [hmux]; rfl, fun m hm => ?_, fun k hk => ?_, fun k => ⟨?_, ?_⟩, fun hready hnone => ?_,
      fun mux hmux => ⟨fun m u hm hu => ?_, fun hnone => ?_⟩, goOffline_onlySteers s⟩
    · rw [(goOffline_kept s _).2.1, (goOffline_kept s _).2.2.1]
      exact (abandonMove_record s m.cls).2.2.1 m hm rfl
    · rw [(goOffline_kept s k).2.1]
      exact (abandonMove_record s k).2.2.2 hk
    · rw [(goOffline_kept s k).1]
      exact (abandonMove_record s k).1
    · rw [(goOffline_kept s k).2.2.2]
      exact (abandonMove_record s k).2.1
    · rw [goOffline_eq, if_neg (by simp [hready]), abandonMove_of_none hnone]
      exact ⟨rfl, rfl⟩
    · rw [hu, hmux, goOffline_eq, abandonMove_of_some hm]
      rfl
    · rw [hmux, goOffline_eq, abandonMove_of_none hnone]
      rfl
  · simp [exec, execMrdyFall, hresetting, not_awake_of_resetting hresetting, recordMrdy, State.setMux]

/-- Settles O53: from `unplacedAll` the evaluations want PLACE moves alone, and ALRTN is low for a silenced station. -/
theorem mrdyRiseReplacesEveryClass : Obligations.MrdyRiseReplacesEveryClass := by
  refine ⟨fun s hawake hoffline => ?rises, fun s h => ?records⟩
  case rises =>
    have hexec : exec .mrdyRise s = .next (comeOnline s) := by simp [exec, execMrdyRise, hawake, hoffline]
    have halert := alertLow_unplacedAll (not_hold_of_awake hawake)
    have hplaces := onlyPlaces_evaluateAll (onlyPlaces_unplacedAll s)
    have hkept := keepsPlacement_evaluated (unplacedAll s)
    have hsteered := evaluated_onlySteers (unplacedAll s)
    have hsame : alertLow (comeOnline s) = alertLow (issueTest (evaluateAll (unplacedAll s))) := by
      rw [comeOnline_eq]
      exact alertLow_congr rfl rfl rfl
    refine ⟨_, hexec, ?_, fun u x hu hx => ?_, ?_, fun _ => ⟨?_, fun k hk => ?_, fun k hk => ?_, fun k => ?_,
      fun e he => ?_, fun hstate => ?_, ?_⟩⟩
    · rw [comeOnline_eq]
      exact hsteered.mrdy
    · rw [hx, hu]
      rw [comeOnline_eq]
      rfl
    · rw [hsame, comeOnline_eq]
      simp only [halert, Bool.and_eq_true, Bool.not_eq_true']
      tauto
    · rw [comeOnline_eq]
      rcases issueTest_port (evaluateAll (unplacedAll s)) with hport | ⟨-, hport⟩
      · exact .inl (hport.trans (by rw [evaluateAll_mux]; rfl))
      · exact .inr hport
    · rw [comeOnline_eq]
      exact (hkept k).2.1.trans (by rw [unplacedAll_inUse hk])
    · rw [comeOnline_eq]
      have hunused := unplacedAll_unused hk
      have hevaluated := evaluateAll_unused (s := unplacedAll s) (by rw [hunused]; exact hk)
      exact (issueTest_unused hplaces (by rw [hevaluated, hunused]; exact hk)).trans (hevaluated.trans hunused)
    · rw [comeOnline_eq]
      obtain ⟨hprefs, -, hbarred⟩ := hkept k
      refine ⟨hprefs.trans ?_, hbarred.trans ?_⟩ <;> simp only [unplacedAll, Eight.get_map] <;> split <;> rfl
    · rw [comeOnline_eq] at he
      exact (hplaces.entries e (mem_issueTest_queue he)).1
    · have hsteers : steers (unplacedAll s) = false := Bool.eq_false_iff.mpr (not_steers_of_unconfigured hstate)
      rw [comeOnline_eq, evaluateAll_of_not_steers hsteers, issueTest_of_not_steers hsteers]
      exact ⟨rfl, rfl⟩
    · rw [comeOnline_eq]
      exact { hsteered with mrdy := hsteered.mrdy, alertReleased := rfl }
  case records =>
    rcases h with ⟨hawake, hport⟩ | hresetting
    · simp [exec, execMrdyRise, hawake, hport, recordMrdy, State.setMux]
    · simp [exec, execMrdyRise, hresetting, not_awake_of_resetting hresetting, recordMrdy, State.setMux]

end Sys2Proof.Proofs
end

section
/-! PROOFS. The law of the transmit queue and of the beacon timer (R53, R55, R57, R76, R77): a HEALTH joins under the
gate alone, a DIGEST where none waits, and an entry leaves as it has been sent or as the station is silenced. -/

namespace Sys2Proof.Machine

open Safety

variable {s t : State} {n : Notice}

/-! ## States that agree in the queue -/

/-- The activity and the HEALTH-due mark of `b` fit the transmit queue. -/
def SendsQueued (b : Bus) : Prop :=
  (b.dueMark = true → ∃ n, b.activity = .sending .health n) ∧
    ∀ e n, b.activity = .sending e n → e ∈ b.queue

theorem sendsQueued_of_law (h : QueueLaw s) : SendsQueued s.bus :=
  ⟨fun hmark => sendingHealth_iff.mp (h.mark_sending hmark), h.sending_queued⟩

theorem sendsQueued_of_not_sending {b : Bus} (hactivity : ∀ e n, b.activity ≠ .sending e n)
    (hmark : b.dueMark = false) : SendsQueued b :=
  ⟨fun h => (by rw [hmark] at h; cases h), fun e n h => absurd h (hactivity e n)⟩

theorem dueMark_of_not_sending (h : SendsQueued s.bus) (hactivity : ∀ n, s.bus.activity ≠ .sending .health n) :
    s.bus.dueMark = false := by
  rw [← Bool.not_eq_true]
  intro hmark
  obtain ⟨n, hn⟩ := h.1 hmark
  exact hactivity n hn

/-- The law reads the queue, the sending of it, the kind of the notice in the slot, the gate and the beacon timer. -/
theorem queueLaw_congr (h : QueueLaw s) (hqueue : t.bus.queue = s.bus.queue) (hsends : SendsQueued t.bus)
    (hslot : t.bus.slot = s.bus.slot ∨ t.bus.slot = none) (hgate : healthGate s = true → healthGate t = true)
    (hbeacon : t.beacon = s.beacon ∨ t.beacon.isRunning = false) : QueueLaw t where
  one_health := hqueue ▸ h.one_health
  one_digest := hqueue ▸ h.one_digest
  health_gate hhealth := hgate (h.health_gate (by rwa [hasHealth, hqueue] at hhealth))
  mark_sending hmark := sendingHealth_iff.mpr (hsends.1 hmark)
  sending_queued := hsends.2
  query_alone hquery := by
    rcases hslot with hslot | hslot
    · rw [slotKind, hslot] at hquery
      rw [hasDigest, hqueue]
      exact h.query_alone hquery
    · rw [slotKind, hslot] at hquery
      cases hquery
  beacon_gate hrunning := by
    rcases hbeacon with hbeacon | hbeacon
    · exact hgate (h.beacon_gate (hbeacon ▸ hrunning))
    · rw [hbeacon] at hrunning
      cases hrunning

theorem queueLaw_same (h : QueueLaw s) (hbus : t.bus = s.bus)
    (hgate : healthGate s = true → healthGate t = true) (hbeacon : t.beacon = s.beacon ∨ t.beacon.isRunning = false) :
    QueueLaw t :=
  queueLaw_congr h (by rw [hbus]) (hbus ▸ sendsQueued_of_law h) (.inl (by rw [hbus])) hgate hbeacon

/-- The bus changes in nothing that the law reads but the slot, which may be emptied. -/
theorem queueLaw_setBus {b : Bus} (h : QueueLaw s) (hqueue : b.queue = s.bus.queue) (hsends : SendsQueued b)
    (hslot : b.slot = s.bus.slot ∨ b.slot = none) : QueueLaw (s.setBus b) :=
  queueLaw_congr h hqueue hsends hslot (fun h => h) (.inl rfl)

/-- An empty queue with nothing sent and the beacon timer stopped, as resets and HOLD leave them (R60, R61, R82). -/
theorem queueLaw_empty (hqueue : t.bus.queue = []) (hactivity : t.bus.activity = .idle)
    (hmark : t.bus.dueMark = false) (hbeacon : t.beacon = .stopped) : QueueLaw t where
  one_health := by simp [hqueue]
  one_digest := by simp [hqueue]
  health_gate h := by simp [hasHealth, hqueue] at h
  mark_sending h := by simp [hmark] at h
  sending_queued e n h := by simp [hactivity] at h
  query_alone _ := by simp [hasDigest, hqueue]
  beacon_gate h := by simp [hbeacon, Timer.isRunning] at h

/-! ## A HEALTH joins, and entries leave (R53, R55 to R57) -/

theorem countP_health_zero {q : List TxEntry} (h : TxEntry.health ∉ q) : q.countP TxEntry.isHealth = 0 := by
  refine List.countP_eq_zero.mpr fun e he hhealth => ?_
  cases e with
  | health => exact h he
  | digest => cases hhealth

/-- The queue of `s` with one more HEALTH, where it holds none and the gate is open. -/
theorem queueLaw_joined (h : QueueLaw s) (hgate : healthGate s = true) (hnone : TxEntry.health ∉ s.bus.queue)
    {b : Bus} (hqueue : b.queue = s.bus.queue ++ [.health]) (hmark : b.dueMark = s.bus.dueMark)
    (hactivity : b.activity = s.bus.activity) (hslot : b.slot = s.bus.slot) : QueueLaw (s.setBus b) where
  one_health := by simp [hqueue, List.countP_append, countP_health_zero hnone, TxEntry.isHealth]
  one_digest := by
    simp only [State.setBus_bus, hqueue, List.countP_append]
    simpa [TxEntry.isHealth] using h.one_digest
  health_gate _ := hgate
  mark_sending hm := by
    have h' := h.mark_sending (hmark ▸ hm)
    simpa [sendingHealth, hactivity] using h'
  sending_queued e n hsending := by
    have hmem := h.sending_queued e n (hactivity ▸ hsending)
    simp [hqueue, hmem]
  query_alone hquery := by
    have h' := h.query_alone (by simpa [slotKind, hslot] using hquery)
    simpa [hasDigest, hqueue, TxEntry.isHealth] using h'
  beacon_gate _ := hgate

theorem queueLaw_healthCause (h : QueueLaw s) : QueueLaw (healthCause s) := by
  cases hgate : healthGate s with
  | false =>
    rw [healthCause_of_closed hgate]
    exact h
  | true =>
    by_cases hsending : ∃ n, s.bus.activity = .sending .health n
    · rw [healthCause_of_sending hgate hsending]
      exact queueLaw_setBus h rfl ⟨fun _ => hsending, h.sending_queued⟩ (.inl rfl)
    · have hsending := not_exists.mp hsending
      by_cases hnone : TxEntry.health ∈ s.bus.queue
      · rw [healthCause_of_waiting hsending hnone]
        exact h
      · rw [healthCause_of_none hgate hsending hnone]
        exact queueLaw_joined h hgate hnone rfl rfl rfl rfl

/-- Entries leave the queue of a station that sends none of them. -/
theorem queueLaw_filter (h : QueueLaw s) (p : TxEntry → Bool) (hqueue : t.bus.queue = s.bus.queue.filter p)
    (hsends : SendsQueued t.bus) (hslot : t.bus.slot = s.bus.slot ∨ t.bus.slot = none)
    (hgate : hasHealth t = true → healthGate t = true) (hbeacon : t.beacon.isRunning = true → healthGate t = true) :
    QueueLaw t where
  one_health := hqueue ▸ (List.filter_sublist.countP_le).trans h.one_health
  one_digest := hqueue ▸ (List.filter_sublist.countP_le).trans h.one_digest
  health_gate := hgate
  mark_sending hmark := sendingHealth_iff.mpr (hsends.1 hmark)
  sending_queued := hsends.2
  query_alone hquery := by
    rcases hslot with hslot | hslot
    · have hnone := h.query_alone (by rwa [slotKind, hslot] at hquery)
      rw [hasDigest, List.any_eq_false] at hnone ⊢
      intro e he
      rw [hqueue] at he
      exact hnone e (List.mem_filter.mp he).1
    · rw [slotKind, hslot] at hquery
      cases hquery
  beacon_gate := hbeacon

/-- A station that is silenced while it sends nothing (R57, R58). -/
theorem queueLaw_silence (h : QueueLaw s) (hactivity : ∀ e n, s.bus.activity ≠ .sending e n) :
    QueueLaw (silence s) := by
  cases hsilenced : s.ctl.silenced with
  | true =>
    have hsame : silence s = s := by simp [silence, hsilenced]
    rw [hsame]
    exact h
  | false =>
    have hbus := silence_bus s
    rw [hsilenced] at hbus
    have hqueue : (silence s).bus.queue = s.bus.queue.filter fun e => !e.isHealth := by rw [hbus]; rfl
    refine queueLaw_filter h _ hqueue (sendsQueued_of_not_sending ?_ ?_) (.inl (by rw [hbus])) (fun hhealth => ?_)
      fun hrunning => ?_
    · rw [hbus]
      exact hactivity
    · rw [hbus]
      exact dueMark_of_not_sending (sendsQueued_of_law h) fun n => hactivity _ n
    · have hmem := hasHealth_iff.mp hhealth
      rw [hqueue] at hmem
      simp [TxEntry.isHealth] at hmem
    · rw [silence_beacon, hsilenced] at hrunning
      cases hrunning

/-! ## The operations of the bus -/

theorem sendsQueued_receiving {b : Bus} {stage : Stage} (hactivity : b.activity = .receiving stage)
    (hmark : b.dueMark = false) : SendsQueued b :=
  sendsQueued_of_not_sending (by simp [hactivity]) hmark

/-- A change of the bus that leaves queue, activity and mark is none of the law's. -/
theorem queueLaw_setBus_same {b : Bus} (h : QueueLaw s) (hqueue : b.queue = s.bus.queue)
    (hactivity : b.activity = s.bus.activity) (hmark : b.dueMark = s.bus.dueMark)
    (hslot : b.slot = s.bus.slot ∨ b.slot = none) : QueueLaw (s.setBus b) :=
  queueLaw_setBus h hqueue
    (by
      obtain ⟨hdue, hsending⟩ := sendsQueued_of_law h
      exact ⟨by rwa [hmark, hactivity], by rwa [hactivity, hqueue]⟩) hslot

/-- A station that sends nothing goes on in another way, but does not begin to send. -/
theorem queueLaw_turns {b : Bus} (h : QueueLaw s) (hnot : ∀ n, s.bus.activity ≠ .sending .health n)
    (hqueue : b.queue = s.bus.queue) (hactivity : ∀ e n, b.activity ≠ .sending e n)
    (hmark : b.dueMark = s.bus.dueMark) (hslot : b.slot = s.bus.slot ∨ b.slot = none) : QueueLaw (s.setBus b) :=
  queueLaw_setBus h hqueue
    (sendsQueued_of_not_sending hactivity (hmark.trans (dueMark_of_not_sending (sendsQueued_of_law h) hnot))) hslot

theorem queueLaw_loseAttempt (h : QueueLaw s) (stage : Stage) : QueueLaw (loseAttempt stage s) := by
  refine queueLaw_setBus h rfl (sendsQueued_receiving rfl ?_) (.inl rfl)
  dsimp only
  split
  · rfl
  · next hnot => exact Bool.eq_false_iff.mpr fun hmark => hnot (h.mark_sending hmark)

theorem queueLaw_loseTo (h : QueueLaw s) (winner : Notice) (i : Nat) : QueueLaw (loseTo winner i s) := by
  unfold loseTo
  dsimp only
  split
  · exact queueLaw_silence (queueLaw_loseAttempt h _) (by simp [loseAttempt])
  · exact queueLaw_loseAttempt h _

theorem queueLaw_openStart (h : QueueLaw s) (hidle : s.bus.activity = .idle) : QueueLaw (openStart s) :=
  queueLaw_turns h (by simp [hidle]) rfl (by simp) rfl (.inl rfl)

theorem queueLaw_meetNotice (h : QueueLaw s) (n : Notice) (first last : Nat) :
    QueueLaw (meetNotice n first last s) := by
  rcases meetNotice_cases s n first last with h' | ⟨hidle, h'⟩ | ⟨_, _, i, _, _, _, _, h'⟩ <;> rw [h']
  · exact h
  · exact queueLaw_openStart h hidle
  · exact queueLaw_loseTo h n i

theorem queueLaw_passSender (h : QueueLaw s) (n : Notice) : QueueLaw (passSender n s) := by
  rcases passSender_cases s n with h' | ⟨hactivity, h'⟩ <;> rw [h']
  · exact h
  · have hopened : QueueLaw (s.setBus { s.bus with activity := .receiving .opened }) :=
      queueLaw_turns h (by simp [hactivity]) rfl (by simp) rfl (.inl rfl)
    split
    · exact queueLaw_silence hopened (by simp)
    · exact hopened

theorem queueLaw_openHoldSlot (h : QueueLaw s) (header : Header) : QueueLaw (openHoldSlot header s) := by
  rcases openHoldSlot_cases s header with h' | ⟨hactivity, h'⟩ <;> rw [h']
  · exact h
  · exact queueLaw_turns h (by simp [hactivity]) rfl (by simp) rfl (.inl rfl)

/-- A QUERY is taken only where no DIGEST is queued (R49). -/
theorem hasDigest_of_query_taken (htaken : noticeOutcome s n = .taken)
    (hkind : readKind n.header.kind = some .query) : hasDigest s = false := by
  obtain ⟨k, hform, -, -, -, -, haccept, -⟩ := (noticeOutcome_taken s n).mp htaken
  cases hkind.symm.trans (readKind_of_form hform)
  simp only [acceptance] at haccept
  split at haccept
  · next htest => simpa using (Bool.and_eq_true_iff.mp htest).2
  · cases haccept

theorem queueLaw_storeNotice (h : QueueLaw s) (htaken : noticeOutcome s n = .taken) : QueueLaw (storeNotice n s) := by
  have hstored : QueueLaw (s.setBus { s.bus with slot := some n }) :=
    { h with query_alone := fun hquery => hasDigest_of_query_taken (s := s) htaken hquery }
  unfold storeNotice
  dsimp only
  split
  · exact queueLaw_same hstored rfl (fun hgate => hgate) (.inl rfl)
  · exact hstored

theorem queueLaw_settleNotice (h : QueueLaw s) {stage : Stage} (hactivity : s.bus.activity = .receiving stage) :
    QueueLaw (settleNotice n (noticeOutcome s n) s) := by
  cases ho : noticeOutcome s n with
  | discarded | ignored | refused => exact h
  | clash => exact queueLaw_silence h (by simp [hactivity])
  | late => exact queueLaw_same h rfl (fun hgate => hgate) (.inl rfl)
  | overrun => exact queueLaw_setBus_same h rfl rfl rfl (.inl rfl)
  | taken => exact queueLaw_storeNotice h ho

theorem settleNotice_activity (n : Notice) (o : NoticeOutcome) (s : State) :
    (settleNotice n o s).bus.activity = s.bus.activity := by
  cases o with
  | discarded | ignored | refused | late | overrun => rfl
  | clash => simp [settleNotice, silence_bus]
  | taken => simp [settleNotice, storeNotice_bus]

theorem queueLaw_toIdle (h : QueueLaw s) (hnot : ∀ n, s.bus.activity ≠ .sending .health n) : QueueLaw (toIdle s) :=
  queueLaw_turns h hnot rfl (by simp) rfl (.inl rfl)

theorem queueLaw_endNotice (h : QueueLaw s) (n : Notice) : QueueLaw (endNotice n s) := by
  rcases endNotice_cases s n with h' | ⟨hactivity, _, h'⟩
  · rw [h']
    exact h
  · split at h' <;> rw [h']
    · exact queueLaw_toIdle h (by simp [hactivity])
    · exact queueLaw_turns (queueLaw_settleNotice h hactivity) (by simp [settleNotice_activity, hactivity]) rfl
        (by simp) rfl (.inl rfl)

theorem queueLaw_dropTaken (h : QueueLaw s) : QueueLaw (dropTaken s) := by
  rw [dropTaken_eq]
  refine queueLaw_setBus_same h rfl rfl rfl ?_
  cases drivesTakeSlot s
  · exact .inl rfl
  · exact .inr rfl

theorem queueLaw_truncate (h : QueueLaw s) {stage : Stage} (hactivity : s.bus.activity = .receiving stage) :
    QueueLaw (truncate s) :=
  queueLaw_toIdle (queueLaw_dropTaken h) (by simp [dropTaken_eq, hactivity])

theorem queueLaw_markInside (h : QueueLaw s) (m : Mark) : QueueLaw (markInside m s) := by
  have hpass (w : Wires) : QueueLaw (passUnfollowed w s) := queueLaw_setBus_same h rfl rfl rfl (.inl rfl)
  have hstart : QueueLaw (startMarkSeen s) := by
    unfold startMarkSeen
    split
    next hidle => exact queueLaw_openStart h hidle
    next hactivity =>
      exact queueLaw_turns (queueLaw_dropTaken h) (by simp [dropTaken_eq, hactivity]) rfl (by simp) rfl (.inl rfl)
    next => exact queueLaw_loseAttempt h _
  have hstop : QueueLaw (stopMarkSeen s) := by
    unfold stopMarkSeen
    split
    next => exact hpass _
    next hactivity => exact queueLaw_truncate h hactivity
    next => exact h
  unfold markInside
  split
  · cases m with
    | start => exact hstart
    | stop => exact hstop
  · split
    · cases m <;> exact hpass _
    · exact h

/-! ## Sending -/

theorem busFree_idle (h : busFree s = true) : s.bus.activity = .idle := by
  simp only [busFree, Bool.and_eq_true] at h
  obtain ⟨⟨⟨hidle, -⟩, -⟩, -⟩ := h
  exact of_decide_eq_true hidle

theorem queueLaw_startSending (h : QueueLaw s) (hidle : s.bus.activity = .idle) {e : TxEntry} (he : e ∈ s.bus.queue) :
    QueueLaw (startSending e s) := by
  have hmark := dueMark_of_not_sending (sendsQueued_of_law h) (by simp [hidle])
  refine queueLaw_setBus h rfl ⟨fun hdue => ?_, fun e' n hsending => ?_⟩ (.inl rfl)
  · rw [hmark] at hdue
    cases hdue
  · cases hsending
    exact he

theorem queueLaw_meetRival (h : QueueLaw s) (own : Notice) (rival : Option Notice) :
    QueueLaw (meetRival own rival s) := by
  unfold meetRival
  split
  · exact h
  · split
    · exact queueLaw_setBus_same h rfl rfl rfl (.inl rfl)
    · exact queueLaw_loseTo h _ _

theorem health_not_mem_leaveQueue (q : List TxEntry) : TxEntry.health ∉ leaveQueue .health q := by
  simp [leaveQueue, TxEntry.isHealth]

/-- The beacon timer starts under the gate of R76. -/
theorem queueLaw_startBeacon (h : QueueLaw s) (hgate : healthGate s = true) : QueueLaw (startBeacon s) :=
  { h with beacon_gate := fun _ => hgate }

theorem queueLaw_completeHealth (h : QueueLaw s) (taken : Bool) (hactivity : s.bus.activity = .sending .health n) :
    QueueLaw (completeHealth taken s) := by
  have hgate := h.health_gate (hasHealth_iff.mpr (h.sending_queued _ _ hactivity))
  have hleft : QueueLaw (s.setBus
      { s.bus with
        activity := .idle, quiet := 0, sinceEvent := 0, wires := quietWires
        queue := leaveQueue .health s.bus.queue, dueMark := false
        lastHealthEnd := some (clock s), lastTaken := taken }) :=
    queueLaw_filter h _ rfl (sendsQueued_of_not_sending (by simp) rfl) (.inl rfl) (fun _ => hgate) fun _ => hgate
  cases hmark : s.bus.dueMark with
  | false =>
    refine queueLaw_startBeacon ?_ hgate
    rw [hmark]
    simpa using hleft
  | true =>
    refine queueLaw_startBeacon ?_ hgate
    exact queueLaw_joined hleft hgate (health_not_mem_leaveQueue _) (by simp [hmark]) rfl rfl rfl

theorem queueLaw_completeDigest (h : QueueLaw s) {target : Byte} {body : List Byte}
    (hactivity : s.bus.activity = .sending (.digest target body) n) :
    QueueLaw (completeDigest (.digest target body) s) := by
  refine queueLaw_filter h _ rfl (sendsQueued_of_not_sending (by simp [completeDigest]) ?_) (.inl rfl)
    (fun hhealth => h.health_gate (hasHealth_iff.mpr ?_)) h.beacon_gate
  · exact dueMark_of_not_sending (s := s) (sendsQueued_of_law h) (by simp [hactivity])
  · exact (List.mem_filter.mp (hasHealth_iff.mp hhealth)).1

/-! ## The operations of the other blocks -/

theorem queueLaw_steerFree : SteerFree QueueLaw := fun _ _ _ hs => queueLaw_same hs rfl (fun h => h) (.inl rfl)

/-- A station that steers goes on steering as it becomes ACTIVE, and one that does not begins as it becomes JOINING. -/
theorem healthGate_of_steers (hgate : healthGate s = true) (hsilenced : t.ctl.silenced = s.ctl.silenced)
    (hsteers : steers t = true) : healthGate t = true := by
  obtain ⟨-, hnot⟩ := Bool.and_eq_true_iff.mp hgate
  simp [healthGate, hsteers, hsilenced, hnot]

theorem queueLaw_ops : KeptByOps QueueLaw where
  toKeptByEvaluation := queueLaw_steerFree.evaluation
  opinions _ _ hs := queueLaw_same hs rfl (fun h => h) (.inl rfl)
  cause _ hs := queueLaw_healthCause hs
  request s hs := queueLaw_same hs (by simp) (fun h => by simpa [healthGate, steers] using h) (.inl (by simp))
  active _ _ hs := queueLaw_same hs rfl (fun h => healthGate_of_steers h rfl rfl) (.inl rfl)

theorem queueLaw_lines : KeptByLines QueueLaw :=
  queueLaw_ops.lines fun _ _ _ _ hs => queueLaw_same hs rfl (fun h => h) (.inl rfl)

theorem queueLaw_joinedState (hs : QueueLaw s) : QueueLaw (joined s) :=
  queueLaw_same hs rfl (fun h => healthGate_of_steers h rfl rfl) (.inl rfl)

/-- The beacon timer is started as the station enters JOINING, but not by a silenced one (R77, R81). -/
theorem queueLaw_enterJoining (hs : QueueLaw s) : QueueLaw (enterJoining s) := by
  rw [enterJoining_eq]
  refine queueLaw_ops.issueTest _ (queueLaw_healthCause ?_)
  split
  · exact queueLaw_joinedState hs
  · next hsilenced =>
    refine queueLaw_startBeacon (queueLaw_joinedState hs) ?_
    simp [healthGate, steers, joined, hsilenced]

theorem queueLaw_configure {c : Settings} (hs : QueueLaw s) : QueueLaw (configure c s) :=
  queueLaw_lines.laneStatusReports (queueLaw_ops.rederive (queueLaw_enterJoining
    (queueLaw_same hs rfl (fun h => h) (.inl rfl))))

theorem queueLaw_resetOver (hs : QueueLaw s) : QueueLaw (resetOver s) :=
  queueLaw_congr hs rfl (sendsQueued_of_law (s := s) hs) (.inl rfl) (fun h => h) (.inl rfl)

theorem queueLaw_endWarmReset (hstate : s.ctl.state = .resetting) (hs : QueueLaw s) : QueueLaw (endWarmReset s) := by
  rw [endWarmReset_eq]
  split
  · exact queueLaw_lines.laneStatusReports
      (queueLaw_ops.request _ (queueLaw_healthCause (queueLaw_enterJoining (queueLaw_resetOver hs))))
  · refine queueLaw_lines.laneStatusReports (queueLaw_same (queueLaw_resetOver hs) rfl (fun h => ?_) (.inl rfl))
    simp [healthGate, steers, resetOver, hstate] at h

/-- The copy of the snapshot joins a queue that holds no DIGEST (R160). -/
theorem queueLaw_takeSnapshot (hs : QueueLaw s) (target : Byte) (hnone : hasDigest s = false)
    (hslot : s.bus.slot = none) : QueueLaw (takeSnapshot target s) where
  one_health := by
    have h := hs.one_health
    simpa [takeSnapshot, List.countP_append, TxEntry.isHealth] using h
  one_digest := by
    have hzero : s.bus.queue.countP (fun e => !e.isHealth) = 0 := by
      rw [hasDigest, List.any_eq_false] at hnone
      exact List.countP_eq_zero.mpr hnone
    simp only [takeSnapshot, List.countP_append, hzero]
    simp [TxEntry.isHealth]
  health_gate h := hs.health_gate (by simpa [hasHealth, takeSnapshot, TxEntry.isHealth] using h)
  mark_sending h := hs.mark_sending h
  sending_queued e n h := List.mem_append_left _ (hs.sending_queued e n h)
  query_alone h := by simp [slotKind, takeSnapshot, hslot] at h
  beacon_gate h := hs.beacon_gate h

theorem queueLaw_warmReset (s : State) : QueueLaw (warmReset s) := queueLaw_empty rfl rfl rfl rfl

theorem queueLaw_handOver (hs : QueueLaw s) (hslot : s.bus.slot = some n) : QueueLaw (handOver n s) := by
  have hempty : QueueLaw (s.setBus { s.bus with slot := none }) := queueLaw_setBus_same hs rfl rfl rfl (.inr rfl)
  unfold handOver
  dsimp only
  split
  next => exact queueLaw_warmReset _
  next =>
    split
    · exact queueLaw_configure hempty
    · exact hempty
  next hkind =>
    exact queueLaw_takeSnapshot hempty _ (hs.query_alone (by rw [slotKind, hslot]; exact hkind)) rfl
  next => exact hs

theorem queueLaw_closeNotice (hs : QueueLaw s) (header : Header) : QueueLaw (closeNotice header s) := by
  rcases closeNotice_cases s header with h' | ⟨taken, hactivity, h' | ⟨n, _, hslot, h'⟩⟩
  · rw [h']
    exact hs
  all_goals
    have hclosing : QueueLaw (s.setBus { s.bus with activity := .receiving (.closing header) }) :=
      queueLaw_turns hs (by simp [hactivity]) rfl (by simp) rfl (.inl rfl)
    rw [h']
  · exact hclosing
  · exact queueLaw_handOver hclosing hslot

/-- Every part of a notice keeps the law; a stop mark ends the notice of a station that receives it (R39, R43). -/
theorem queueLaw_followNotice (hs : QueueLaw s) (n : Notice) (span : NoticeSpan) : QueueLaw (followNotice n span s) := by
  have hpass {t : State} (w : Wires) (ht : QueueLaw t) : QueueLaw (passUnfollowed w t) :=
    queueLaw_setBus_same ht rfl rfl rfl (.inl rfl)
  have hstop {t : State} (ht : QueueLaw t) : QueueLaw (passStop n.header t) := by
    unfold passStop
    split
    next => exact hpass _ ht
    next hactivity =>
      split
      · exact queueLaw_toIdle ht (by simp [hactivity])
      · exact ht
    next => exact ht
  have hfollow : QueueLaw (followSpan n span s) := by
    cases span with
    | whole =>
      exact hstop (queueLaw_closeNotice (queueLaw_endNotice (queueLaw_openHoldSlot (queueLaw_passSender
        (queueLaw_meetNotice hs n _ _) n) _) n) _)
    | startMark => exact queueLaw_meetNotice hs n _ _
    | sender => exact queueLaw_passSender (queueLaw_meetNotice hs n _ _) n
    | header => exact queueLaw_openHoldSlot (queueLaw_passSender (queueLaw_meetNotice hs n _ _) n) _
    | body => exact queueLaw_endNotice (queueLaw_meetNotice hs n _ _) n
    | takeSlot => exact queueLaw_closeNotice hs _
    | stopMark => exact hstop hs
    | clocks => exact hs
  unfold followNotice
  split
  · split
    · exact hpass _ hs
    · obtain ⟨w, h⟩ := seeWires_eq (followSpan n span s) n span
      rw [h]
      exact queueLaw_setBus_same hfollow rfl rfl rfl (.inl rfl)
  · split
    · exact hpass _ hs
    · exact hs

theorem queueLaw_bus : KeptByBus QueueLaw QueueLaw where
  follow _ n span hs := queueLaw_followNotice hs n span
  attempt _ rival _ _ hfree hnext hs := queueLaw_meetRival
    (queueLaw_startSending hs (busFree_idle hfree) (List.mem_of_find?_eq_some hnext)) _ rival
  health _ taken _ _ hactivity hs := queueLaw_completeHealth hs taken hactivity
  digest _ _ _ _ _ hactivity hs := queueLaw_completeDigest hs hactivity
  high _ _ hs := queueLaw_setBus_same hs rfl rfl rfl (.inl rfl)
  truncated _ _ _ _ hactivity hs :=
    queueLaw_setBus_same (queueLaw_truncate hs hactivity) rfl rfl rfl (.inl rfl)
  mark _ m hs := queueLaw_markInside hs m
  released _ hs := queueLaw_setBus_same hs rfl rfl rfl (.inl rfl)

theorem queueLaw_read (hs : QueueLaw s) (view : PeerView) (verdicts : VerdictUnit) :
    QueueLaw { s with view := view, verdicts := verdicts } :=
  queueLaw_same hs rfl (fun h => h) (.inl rfl)

theorem queueLaw_absorb (hs : QueueLaw s) (n : Notice) : QueueLaw (absorb n s) :=
  queueLaw_congr hs rfl (sendsQueued_of_law (s := s) hs) (.inr rfl) (fun h => h) (.inl rfl)

theorem queueLaw_entries (hs : QueueLaw s) (entries : List PeerEntry) : QueueLaw (s.setEntries entries) :=
  queueLaw_read hs _ s.verdicts

theorem queueLaw_writeVerdicts (r : Recompute) (hs : QueueLaw s) : QueueLaw (writeVerdicts r s) := by
  unfold writeVerdicts
  dsimp only
  split
  · exact queueLaw_ops.evaluated (queueLaw_read hs s.view _)
  · exact queueLaw_read hs s.view _

theorem queueLaw_peers : KeptByPeers QueueLaw QueueLaw where
  absorb _ n _ _ hs := queueLaw_ops.request _ (queueLaw_absorb hs n)
  beacon _ _ hs := queueLaw_healthCause (queueLaw_same hs rfl (fun h => h) (.inr rfl))
  heldBack s h hs := by
    unfold holdExpiry
    split
    · exact hs
    · exact queueLaw_read hs _ s.verdicts
  stale _ _ _ hs := queueLaw_ops.request _ (queueLaw_entries hs _)
  remove _ _ _ hs := by
    unfold removePeer
    split
    · exact queueLaw_ops.request _ (queueLaw_entries hs _)
    · exact queueLaw_entries hs _
  complete _ r _ _ hs :=
    completeRecompute_keeps (queueLaw_writeVerdicts r hs) (fun _ n _ ht => queueLaw_absorb ht n)
      (fun t ht => queueLaw_read ht _ t.verdicts) (fun _ _ ht => queueLaw_entries ht _)
      (fun _ _ ht => queueLaw_entries ht _) (fun t ht => queueLaw_read ht t.view _)
  holdExpired s _ _ _ hs := queueLaw_ops.request _ (queueLaw_read hs s.view _)

theorem queueLaw_coldReset (pins : Pins) (s : State) : QueueLaw (coldReset pins s) := by
  rw [coldReset_eq]
  exact queueLaw_empty rfl rfl rfl rfl

theorem queueLaw_station : KeptByStation QueueLaw QueueLaw where
  defaults _ _ hs := queueLaw_configure (queueLaw_same hs rfl (fun h => h) (.inl rfl))
  active _ hstate hs := queueLaw_ops.enterActive hstate hs
  reset _ _ _ := queueLaw_warmReset _
  rstn _ _ _ hs := queueLaw_same hs rfl (fun h => h) (.inl rfl)
  resetEnd _ hstate hs := queueLaw_endWarmReset hstate hs
  hold _ _ _ := queueLaw_empty rfl rfl rfl rfl
  cold s pins _ _ := queueLaw_coldReset pins s

theorem queueLaw_events : KeptByEvents QueueLaw QueueLaw where
  stays _ hs := hs
  lines := queueLaw_lines
  bus := queueLaw_bus
  peers := queueLaw_peers
  steering := queueLaw_steerFree.steering
  station := queueLaw_station

@[simp] theorem Station.tick_silenced (c : Station) : c.tick.silenced = c.silenced := by
  unfold Station.tick
  split <;> rfl

theorem queueLaw_passMicro (hs : QueueLaw s) : QueueLaw (passMicro s) := by
  by_cases hhold : s.ctl.state = .hold
  · rw [passMicro_of_hold hhold]
    exact hs
  · rw [passMicro_of_not_hold hhold]
    obtain ⟨-, hstate, -⟩ := Station.tick_kept s.ctl
    exact queueLaw_congr hs rfl (sendsQueued_of_law (s := s) hs) (.inl rfl)
      (fun h => by simpa [healthGate, steers, hstate] using h) (.inl rfl)

end Sys2Proof.Machine

namespace Sys2Proof.Proofs

open Sys2Proof.Machine Sys2Proof.Safety

/-- Settles O11: entries join under the gate or where none of their kind waits, and the gate closes with the queue. -/
theorem transmitQueueKeepsItsLaw : Obligations.TransmitQueueKeepsItsLaw := fun _ _ hs ht =>
  step_keeps queueLaw_events (fun _ _ h => queueLaw_same h rfl (fun h => h) (.inl rfl))
    (fun _ h => queueLaw_passMicro h) hs ht

end Sys2Proof.Proofs
end

section
/-! PROOFS. What resets alone clear: the id, station time, the store and the silencing (R146, R147, R151, R156). -/

namespace Sys2Proof.Machine

open Safety

/-! ## Commands under a stronger premise and a weaker conclusion -/

section Mono

variable {P Q P' Q' : State → Prop} (hP : ∀ s, P' s → P s) (hQ : ∀ s, Q s → Q' s)
include hP hQ

theorem KeptByBus.mono (h : KeptByBus P Q) : KeptByBus P' Q' where
  follow s n span hs := hQ _ (h.follow s n span (hP s hs))
  attempt s rival e hawake hfree hnext hs := hQ _ (h.attempt s rival e hawake hfree hnext (hP s hs))
  health s taken n hawake hsending hs := hQ _ (h.health s taken n hawake hsending (hP s hs))
  digest s target body n hawake hsending hs := hQ _ (h.digest s target body n hawake hsending (hP s hs))
  high s w hs := hQ _ (h.high s w (hP s hs))
  truncated s w stage hawake hreceiving hs := hQ _ (h.truncated s w stage hawake hreceiving (hP s hs))
  mark s m hs := hQ _ (h.mark s m (hP s hs))
  released s hs := hQ _ (h.released s (hP s hs))

theorem KeptByPeers.mono (h : KeptByPeers P Q) : KeptByPeers P' Q' where
  absorb s n hawake hwaiting hs := hQ _ (h.absorb s n hawake hwaiting (hP s hs))
  beacon s hawake hs := hQ _ (h.beacon s hawake (hP s hs))
  heldBack s x hs := hQ _ (h.heldBack s x (hP s hs))
  stale s id hawake hs := hQ _ (h.stale s id hawake (hP s hs))
  remove s id hawake hs := hQ _ (h.remove s id hawake (hP s hs))
  complete s r hawake hactivity hs := hQ _ (h.complete s r hawake hactivity (hP s hs))
  holdExpired s sw hawake hdue hs := hQ _ (h.holdExpired s sw hawake hdue (hP s hs))

theorem KeptBySteering.mono (h : KeptBySteering P Q) : KeptBySteering P' Q' where
  unbar s c p hawake hs := hQ _ (h.unbar s c p hawake (hP s hs))
  issue s hs := hQ _ (h.issue s (hP s hs))
  arrive s m hawake hmove hs := hQ _ (h.arrive s m hawake hmove (hP s hs))
  refuse s m t hawake hmove hs := hQ _ (h.refuse s m t hawake hmove (hP s hs))
  remain s m hawake hmove hs := hQ _ (h.remain s m hawake hmove (hP s hs))
  answerLimit s m hport hmove hs := hQ _ (h.answerLimit s m hport hmove (hP s hs))
  cancelLimit s hport hs := hQ _ (h.cancelLimit s hport (hP s hs))
  mrdy s level hs := hQ _ (h.mrdy s level (hP s hs))
  offline s hawake hs := hQ _ (h.offline s hawake (hP s hs))
  online s hawake hport hs := hQ _ (h.online s hawake hport (hP s hs))

end Mono

/-! ## What a command keeps of the station -/

/-- `s` keeps of the station `s₀` its id, its time, a stored configuration and the silencing; where
`resets` says so, a warm reset may have cleared the last. -/
structure StationKept (resets : Bool) (s₀ s : State) : Prop where
  store : StoreLaw s
  running : s.ctl.state ≠ .hold
  id : s.ctl.id = s₀.ctl.id
  time : s.ctl.time = s₀.ctl.time
  config : ∀ g, s₀.ctl.config = some g → s.ctl.config = some g
  silenced : s₀.ctl.silenced = true → s.ctl.silenced = true ∨ (resets = true ∧ s.ctl.state = .resetting)

variable {resets : Bool} {s₀ s t : State}

theorem stationKept_congr (h : StationKept resets s₀ s) (hid : t.ctl.id = s.ctl.id) (htime : t.ctl.time = s.ctl.time)
    (hconfig : t.ctl.config = s.ctl.config) (hstate : t.ctl.state = s.ctl.state)
    (hsilenced : s.ctl.silenced = true → t.ctl.silenced = true) : StationKept resets s₀ t where
  store := storeLaw_congr h.store hconfig hstate
  running := hstate ▸ h.running
  id := hid.trans h.id
  time := htime.trans h.time
  config g hg := hconfig.trans (h.config g hg)
  silenced h₀ := (h.silenced h₀).imp hsilenced fun ⟨hresets, hreset⟩ => ⟨hresets, hstate.trans hreset⟩

theorem stationKept_same (h : StationKept resets s₀ s) (hctl : t.ctl = s.ctl) : StationKept resets s₀ t :=
  stationKept_congr h (by rw [hctl]) (by rw [hctl]) (by rw [hctl]) (by rw [hctl]) (by rw [hctl]; exact fun h => h)

/-- A station that is not in a warm reset enters another state, and the store may be filled where it was empty. -/
theorem stationKept_enters (h : StationKept resets s₀ s) (hnot : resets = false ∨ s.ctl.state ≠ .resetting)
    (hstore : StoreLaw t) (hrunning : t.ctl.state ≠ .hold) (hid : t.ctl.id = s.ctl.id)
    (htime : t.ctl.time = s.ctl.time) (hconfig : t.ctl.config = s.ctl.config ∨ s.ctl.config = none)
    (hsilenced : t.ctl.silenced = s.ctl.silenced) : StationKept resets s₀ t where
  store := hstore
  running := hrunning
  id := hid.trans h.id
  time := htime.trans h.time
  config g hg := by
    rcases hconfig with hconfig | hnone
    · exact hconfig.trans (h.config g hg)
    · cases hnone.symm.trans (h.config g hg)
  silenced h₀ := by
    rcases h.silenced h₀ with hs | ⟨hresets, hreset⟩
    · exact .inl (hsilenced.trans hs)
    · rcases hnot with hnot | hnot
      · rw [hnot] at hresets
        cases hresets
      · exact absurd hreset hnot

theorem stationKept_steerFree : SteerFree (StationKept resets s₀) := fun _ _ _ hs => stationKept_same hs rfl

theorem stationKept_ops : KeptByOps (StationKept resets s₀) where
  toKeptByEvaluation := stationKept_steerFree.evaluation
  opinions _ _ hs := stationKept_same hs rfl
  cause _ hs := stationKept_same hs (by simp)
  request _ hs := stationKept_same hs (by simp)
  active s hstate hs := by
    have hconfig := hs.store.2 (steers_of_joining hstate)
    exact stationKept_enters hs (.inr (by simp [hstate])) (storeLaw_of_config hconfig (by simp)) (by simp) rfl rfl
      (.inl rfl) rfl

theorem stationKept_busFree : BusFree (StationKept resets s₀) := fun _ _ _ _ _ _ _ hsilenced hs =>
  stationKept_congr hs rfl rfl rfl rfl hsilenced

theorem stationKept_lines : KeptByLines (StationKept resets s₀) :=
  stationKept_ops.lines fun _ _ _ _ hs => stationKept_same hs rfl

/-- The store of an unconfigured station is empty, so a configuration overwrites none (R151). -/
theorem stationKept_configure {c : Settings} (hstate : s.ctl.state = .unconfigured)
    (hs : StationKept resets s₀ s) : StationKept resets s₀ (configure c s) :=
  stationKept_ops.configure stationKept_lines (fun _ => stationKept_busFree.startBeacon)
    (stationKept_enters hs (.inr (by simp [hstate])) (storeLaw_of_config rfl (by simp [joined])) (by simp [joined]) rfl rfl
      (.inr (hs.store.1 hstate)) rfl)

theorem stationKept_warmReset (hs : StationKept true s₀ s) : StationKept true s₀ (warmReset s) where
  store := storeLaw_of_not_steers (.inr rfl)
  running := by simp [warmReset]
  id := hs.id
  time := hs.time
  config := hs.config
  silenced _ := .inr ⟨rfl, rfl⟩

theorem stationKept_endWarmReset (hs : StationKept false s₀ s) : StationKept false s₀ (endWarmReset s) := by
  refine stationKept_ops.endWarmReset stationKept_lines (fun _ => stationKept_busFree.startBeacon) (fun hconfig => ?_)
    fun hnone => ?_
  · exact stationKept_enters hs (.inl rfl) (storeLaw_of_config hconfig (by simp [joined])) (by simp [joined]) rfl rfl
      (.inl rfl) rfl
  · have hstore : StoreLaw (unjoined (resetOver s)) := ⟨fun _ => hnone, fun h => by simp [steers, unjoined] at h⟩
    exact stationKept_enters hs (.inl rfl) hstore (by simp [unjoined]) rfl rfl (.inl rfl) rfl

/-! ## Every command but SUPPLY_GOOD -/

/-- What the statement says of the state after a command. -/
def StationAfter (s₀ s : State) : Prop :=
  s.ctl.id = s₀.ctl.id ∧ s.ctl.time = s₀.ctl.time ∧
    (∀ g, s₀.ctl.config = some g → s.ctl.config = some g) ∧
    (s₀.ctl.silenced = true → s.ctl.silenced = true ∨ s.ctl.state = .resetting)

theorem StationKept.after (h : StationKept resets s₀ s) : StationAfter s₀ s :=
  ⟨h.id, h.time, h.config, fun h₀ => (h.silenced h₀).imp_right And.right⟩

theorem StationKept.stays_silenced (h : StationKept false s₀ s) (h₀ : s₀.ctl.silenced = true) :
    s.ctl.silenced = true :=
  (h.silenced h₀).resolve_right fun ⟨hfalse, _⟩ => nomatch hfalse

theorem StationKept.mayReset (h : StationKept false s₀ s) : StationKept true s₀ s :=
  { h with silenced := fun h₀ => .inl (h.stays_silenced h₀) }

theorem stationKept_station : KeptByStation (StationKept false s₀) (StationAfter s₀) where
  defaults s hstate hs :=
    (stationKept_configure (s := s.setStation { s.ctl with defaulted := true }) hstate
      (stationKept_congr hs rfl rfl rfl rfl fun h => h)).after
  active _ hstate hs := (stationKept_ops.enterActive hstate hs).after
  reset s _ hs :=
    (stationKept_warmReset (s := s.setStation { s.ctl with rstnHigh := false })
      (stationKept_congr hs.mayReset rfl rfl rfl rfl fun h => h)).after
  rstn s level quiet hs :=
    (stationKept_congr (t := s.setStation { s.ctl with rstnHigh := level, resetQuiet := quiet }) hs rfl rfl rfl rfl
      fun h => h).after
  resetEnd _ _ hs := (stationKept_endWarmReset hs).after
  hold _ _ hs := ⟨hs.id, hs.time, hs.config, fun h₀ => .inl (hs.stays_silenced h₀)⟩
  cold _ _ hstate hs := absurd hstate hs.running

theorem stationKept_events : KeptByEvents (StationKept false s₀) (StationAfter s₀) where
  stays _ hs := hs.after
  lines := stationKept_lines
  bus := (stationKept_busFree.keptByBus (fun _ _ _ _ hs => stationKept_congr hs rfl rfl rfl rfl fun h => h)
    (fun _ hs => stationKept_warmReset hs) (fun _ _ hstate hs => stationKept_configure hstate hs)
    (fun _ hs => stationKept_same hs rfl)).mono (fun _ hs => hs.mayReset) fun _ hs => hs.after
  peers := (stationKept_ops.peers stationKept_busFree fun _ _ _ hs => stationKept_same hs rfl).mono
    (fun _ hs => hs) fun _ hs => StationKept.after (resets := false) hs
  steering := stationKept_steerFree.steering.mono (fun _ hs => hs) fun _ hs => StationKept.after (resets := false) hs
  station := stationKept_station

end Sys2Proof.Machine

namespace Sys2Proof.Proofs

open Sys2Proof.Machine Sys2Proof.Safety

/-- Settles O5: in HOLD no other command acts, and elsewhere none but a warm reset clears the silencing. -/
theorem onlyResetsClearStationState : Obligations.OnlyResetsClearStationState := by
  intro c s t hstore hexec hc
  by_cases hhold : s.ctl.state = .hold
  · cases (exec_of_hold hhold hc).symm.trans hexec
    exact ⟨rfl, rfl, fun _ h => h, .inl⟩
  · have hs : StationKept false s s := ⟨hstore, hhold, rfl, rfl, fun _ h => h, .inl⟩
    exact (stationKept_events.exec hs c).of_next hexec

end Sys2Proof.Proofs
end

section
/-! PROOFS. A FORCED move in AWAIT is not cancelled: nothing issues over it, the cancel triggers are for DRAINED moves,
and what ends it leaves the port READY, in AWAIT, OFFLINE or STALLED (R136 to R142). -/

namespace Sys2Proof.Machine

open Safety

variable {s t : State} {p : PortId}

/-! ## A lane status report, in JOINING and in ACTIVE -/

/-- The port `p` in PROBATION, with the hello timer of its lane started, before the change is handed onward (R12, R22). -/
def inProbation (p : PortId) (s : State) : State :=
  (s.setPort p { s.ports.get p with state := .probation, cleanEpochs := 0 }).setLane p
    { s.lanes.get p with
      helloTimer := if (s.lanes.get p).supervised then helloTimerFrom s else (s.lanes.get p).helloTimer }

theorem inProbation_state (p : PortId) (s : State) : ((inProbation p s).ports.get p).state = .probation := by
  simp [inProbation]

/-- A port that enters PROBATION leaves the joining window open, so that its change is handed onward alone. -/
theorem enterProbation_eq (p : PortId) (s : State) :
    enterProbation p s = issueTest (evaluateAll (cancelTrigger p (rederive (inProbation p s)))) :=
  portChanged_of_ctl (portChanged_ctl_of_not_up (by simp) (by simp))

theorem probationCheck_outcome (p : PortId) (s : State) :
    probationCheck p s = s ∨
      (steers s = true ∧ (s.ports.get p).state = .down ∧
        probationCheck p s = issueTest (evaluateAll (cancelTrigger p (rederive (inProbation p s))))) := by
  by_cases hready : probationReady s p = true
  · obtain ⟨hsteers, hdown, -⟩ := probationReady_iff.mp hready
    exact .inr ⟨hsteers, hdown, (probationCheck_of_ready hready).trans (enterProbation_eq p s)⟩
  · exact .inl (probationCheck_of_not_ready hready)

/-- A predicate that the handing onward keeps, and that reads neither lanes nor port records, is kept by the lane status
reports, with no entry to ACTIVE. -/
theorem laneStatusReports_handed {P : State → Prop} (hevaluation : KeptByEvaluation P)
    (hrederive : ∀ s, P s → P (rederive s)) (hports : ∀ s p, steers s = true → P s → P (inProbation p s)) (hs : P s) :
    P (laneStatusReports s) := by
  refine laneStatusReports_keeps s P (fun p t ht => ?_) hs
  rcases probationCheck_outcome p t with h | ⟨hsteers, -, h⟩ <;> rw [h]
  · exact ht
  · exact hevaluation.evaluated (hevaluation.cancelTrigger _ p (hrederive _ (hports t p hsteers ht)))

theorem laneStatusReports_of_not_steers (h : steers s = false) : laneStatusReports s = s := by
  refine laneStatusReports_keeps s (fun t => t = s) (fun p t ht => ?_) rfl
  rcases probationCheck_outcome p t with h' | ⟨hsteers, -, -⟩
  · exact h'.trans ht
  · rw [ht, h] at hsteers
    cases hsteers

/-! ## A FORCED move in AWAIT -/

/-- A FORCED move is in AWAIT. -/
def ForcedInAwait (s : State) : Prop :=
  s.mux.port = .await ∧ ∃ m, s.mux.outstanding = some m ∧ m.mode = .forced

/-- A FORCED move is in AWAIT, or a warm reset has begun and none is outstanding at the port. -/
def NoCancel (s : State) : Prop :=
  ForcedInAwait s ∨ (s.ctl.state = .resetting ∧ (s.mux.port = .ready ∨ s.mux.port = .offline))

theorem noCancel_congr (h : NoCancel s) (hport : t.mux.port = s.mux.port)
    (hmove : t.mux.outstanding = s.mux.outstanding) (hstate : t.ctl.state = s.ctl.state) : NoCancel t := by
  rw [NoCancel, ForcedInAwait, hport, hmove, hstate]
  exact h

theorem ForcedInAwait.congr (h : ForcedInAwait s) (hmux : t.mux = s.mux) : ForcedInAwait t := by
  rw [ForcedInAwait, hmux]
  exact h

theorem NoCancel.forced (h : NoCancel s) (hstate : s.ctl.state ≠ .resetting) : ForcedInAwait s :=
  h.resolve_right fun ⟨hreset, _⟩ => hstate hreset

theorem NoCancel.port_ne (h : NoCancel s) : s.mux.port ≠ .cancelling := by
  rcases h with ⟨hport, -⟩ | ⟨-, hport | hport⟩ <;> rw [hport] <;> simp

theorem noCancel_issueTest (h : NoCancel s) : issueTest s = s := by
  refine issueTest_of_none (Option.eq_none_iff_forall_ne_some.mpr fun e he => ?_)
  obtain ⟨hready, hsteers, -⟩ := issuable_eq_some.mp he
  rcases h with ⟨hawait, -⟩ | ⟨hreset, -⟩
  · rw [hready] at hawait
    cases hawait
  · simp [steers, hreset] at hsteers

theorem noCancel_cancelTrigger (h : NoCancel s) (p : PortId) : cancelTrigger p s = s := by
  have hnone : drainedInAwait s = none := by
    refine Option.eq_none_iff_forall_ne_some.mpr fun m hm => ?_
    obtain ⟨hport, hmove, hmode⟩ := drainedInAwait_eq_some.mp hm
    rcases h with ⟨-, m', hmove', hmode'⟩ | ⟨-, hready | hready⟩
    · rw [Option.some.inj (hmove.symm.trans hmove'), hmode'] at hmode
      cases hmode
    all_goals
      rw [hport] at hready
      cases hready
  simp [cancelTrigger, hnone]

theorem noCancel_ops : KeptByOps NoCancel where
  evaluate s c hs := noCancel_congr hs (by rw [evaluate_mux]) (by rw [evaluate_mux]) (by simp)
  issueTest s hs := by rwa [noCancel_issueTest hs]
  cancelTrigger s p hs := by rwa [noCancel_cancelTrigger hs]
  opinions _ _ hs := hs
  cause s hs := noCancel_congr hs (by simp) (by simp) (by simp)
  request s hs := noCancel_congr hs (by simp) (by simp) (by simp)
  active s hstate hs := .inl ((hs.forced (by simp [hstate])).congr rfl)

theorem noCancel_busFree : BusFree NoCancel := fun _ _ _ _ _ _ _ _ hs => hs

theorem noCancel_lines : KeptByLines NoCancel := noCancel_ops.lines fun _ _ _ _ hs => hs

theorem noCancel_configure {c : Settings} (hstate : s.ctl.state = .unconfigured) (hs : NoCancel s) :
    NoCancel (configure c s) :=
  noCancel_ops.configure noCancel_lines (fun _ => noCancel_busFree.startBeacon)
    (.inl ((hs.forced (by simp [hstate])).congr rfl))

theorem portFromMrdy_cases (mrdy : Bool) : portFromMrdy mrdy = .ready ∨ portFromMrdy mrdy = .offline := by
  cases mrdy
  · exact .inr rfl
  · exact .inl rfl

theorem noCancel_warmReset (s : State) : NoCancel (warmReset s) := .inr ⟨rfl, portFromMrdy_cases _⟩

/-! ## The ends of a move, and the end of a warm reset -/

/-- The steering port is not CANCELLING. -/
def NotCancelling (s : State) : Prop := s.mux.port ≠ .cancelling

theorem notCancelling_issueTest (h : s.mux.port = .ready) : NotCancelling (issueTest s) := by
  rcases issueTest_port s with hport | ⟨-, hport⟩ <;> simp [NotCancelling, hport, h]

theorem notCancelling_finishMove (c : ClassId) (r : ClassRecord) (s : State) : NotCancelling (finishMove c r s) := by
  rw [finishMove_eq]
  exact notCancelling_issueTest (by rw [evaluate_mux]; rfl)

theorem notCancelling_comeOnline (s : State) : NotCancelling (comeOnline s) := by
  rw [comeOnline_eq]
  exact notCancelling_issueTest (by rw [evaluateAll_mux]; rfl)

theorem noCancel_steering : KeptBySteering NoCancel NotCancelling where
  unbar s c p _ hs :=
    (noCancel_ops.issueTest _ (noCancel_ops.evaluate (s.setClass c ((s.classes.get c).unbar p)) c hs)).port_ne
  issue s hs := (noCancel_ops.issueTest s hs).port_ne
  arrive _ _ _ _ _ := notCancelling_finishMove _ _ _
  refuse _ _ _ _ _ _ := notCancelling_finishMove _ _ _
  remain _ _ _ _ _ := notCancelling_finishMove _ _ _
  answerLimit s m hport hmove hs := by
    rcases hs with ⟨-, m', hmove', hmode⟩ | ⟨-, hready | hready⟩
    · rw [answerLimitPassed, Option.some.inj (hmove.symm.trans hmove'), hmode]
      simp [NotCancelling, stall]
    all_goals
      rw [hport] at hready
      cases hready
  cancelLimit s hport hs := absurd hport hs.port_ne
  mrdy s _ hs := hs.port_ne
  offline s _ _ := by
    rw [NotCancelling, goOffline_mux]
    simp [offlineMux]
  online s _ _ _ := notCancelling_comeOnline s

/-- In JOINING a PLACE alone is issued, which is FORCED: no move in AWAIT can be cancelled. -/
structure JoiningForced (s : State) : Prop where
  joining : s.ctl.state = .joining
  not_cancelling : NotCancelling s
  forced : s.mux.port = .await → ∀ m, s.mux.outstanding = some m → m.mode = .forced

theorem joiningForced_congr (h : JoiningForced s) (hstate : t.ctl.state = s.ctl.state)
    (hport : t.mux.port = s.mux.port) (hmove : t.mux.outstanding = s.mux.outstanding) : JoiningForced t where
  joining := hstate.trans h.joining
  not_cancelling := by rw [NotCancelling, hport]; exact h.not_cancelling
  forced hawait m hm := h.forced (hport ▸ hawait) m (hmove ▸ hm)

theorem joiningForced_issueTest (h : JoiningForced s) : JoiningForced (issueTest s) := by
  rcases issueTest_outcome s with ⟨-, hissue⟩ | ⟨e, hissuable, hissue⟩ <;> rw [hissue]
  · exact h
  · obtain ⟨-, -, hfind⟩ := issuable_eq_some.mp hissuable
    have hplace := (entryEligible_iff.mp (List.find?_some hfind)).2 h.joining
    refine ⟨h.joining, by simp [NotCancelling, issueEntry], fun _ m hm => ?_⟩
    rw [← Option.some.inj hm]
    simp [QueueEntry.move, hplace, MoveKind.mode]

theorem joiningForced_cancelTrigger (h : JoiningForced s) (p : PortId) : JoiningForced (cancelTrigger p s) := by
  have hnone : drainedInAwait s = none := by
    refine Option.eq_none_iff_forall_ne_some.mpr fun m hm => ?_
    obtain ⟨hport, hmove, hmode⟩ := drainedInAwait_eq_some.mp hm
    rw [h.forced hport m hmove] at hmode
    cases hmode
  have hsame : cancelTrigger p s = s := by simp [cancelTrigger, hnone]
  rwa [hsame]

theorem joiningForced_evaluation : KeptByEvaluation JoiningForced where
  evaluate s c hs := joiningForced_congr hs (by simp) (by rw [evaluate_mux]) (by rw [evaluate_mux])
  issueTest _ hs := joiningForced_issueTest hs
  cancelTrigger _ p hs := joiningForced_cancelTrigger hs p

theorem joiningForced_enterJoining (hport : s.mux.port = .ready ∨ s.mux.port = .offline) :
    JoiningForced (enterJoining s) := by
  rw [enterJoining_eq]
  have hjoined : JoiningForced (joined s) :=
    ⟨rfl, by rcases hport with hport | hport <;> simp [NotCancelling, joined, hport],
      fun hawait => by rcases hport with hport | hport <;> simp [joined, hport] at hawait⟩
  refine joiningForced_issueTest (joiningForced_congr
    (s := if s.ctl.silenced then joined s else startBeacon (joined s)) ?_ (by simp) (by simp) (by simp))
  · split
    · exact hjoined
    · exact joiningForced_congr hjoined (by simp) (by simp) (by simp)

theorem notCancelling_endWarmReset (s : State) : NotCancelling (endWarmReset s) := by
  have hport := portFromMrdy_cases s.mux.mrdy
  rw [endWarmReset_eq]
  split
  · have hjoining : JoiningForced (enterJoining (resetOver s)) := joiningForced_enterJoining hport
    refine JoiningForced.not_cancelling (laneStatusReports_handed joiningForced_evaluation
      (fun t ht => joiningForced_congr ht (by simp) (by simp) (by simp))
      (fun t p _ ht => joiningForced_congr ht rfl rfl rfl) (joiningForced_congr hjoining (by simp) (by simp) (by simp)))
  · rw [laneStatusReports_of_not_steers rfl]
    rcases hport with hport | hport <;> simp [NotCancelling, unjoined, resetOver, hport]

theorem noCancel_station : KeptByStation NoCancel NotCancelling where
  defaults s hstate hs :=
    (noCancel_configure (s := s.setStation { s.ctl with defaulted := true }) hstate hs).port_ne
  active s hstate hs := (noCancel_ops.enterActive hstate hs).port_ne
  reset s _ _ := (noCancel_warmReset _).port_ne
  rstn s _ _ hs := hs.port_ne
  resetEnd s _ _ := notCancelling_endWarmReset s
  hold s _ hs := hs.port_ne
  cold s pins _ _ := by
    rw [coldReset_eq]
    rcases portFromMrdy_cases pins.mrdy with h | h <;> simp [NotCancelling, coldState, coldMux, h]

theorem noCancel_events : KeptByEvents NoCancel NotCancelling where
  stays _ hs := hs.port_ne
  lines := noCancel_lines
  bus := (noCancel_busFree.keptByBus (fun _ _ _ _ hs => hs) (fun s _ => noCancel_warmReset s)
    (fun _ _ hstate hs => noCancel_configure hstate hs) (fun _ hs => hs)).mono (fun _ hs => hs)
    fun _ hs => NoCancel.port_ne hs
  peers := (noCancel_ops.peers noCancel_busFree fun _ _ _ hs => hs).mono (fun _ hs => hs)
    fun _ hs => NoCancel.port_ne hs
  steering := noCancel_steering
  station := noCancel_station

end Sys2Proof.Machine

namespace Sys2Proof.Proofs

open Sys2Proof.Machine Sys2Proof.Safety

/-- Settles O51: no part of a command meets a DRAINED move in AWAIT, as none is issued before the FORCED one has ended. -/
theorem forcedMoveIsNeverCancelled : Obligations.ForcedMoveIsNeverCancelled := fun c _ _ m hport hmove hmode hexec =>
  (noCancel_events.exec (.inl ⟨hport, m, hmove, hmode⟩) c).of_next hexec

end Sys2Proof.Proofs
end

section
/-! PROOFS. The law of steering without the usability of the targets, which a change of a port state may break and the
evaluations restore (R109 to R119, R128). -/

namespace Sys2Proof.Machine

open Safety

variable {s t : State} {c : ClassId} {b : PortId} {r : ClassRecord} {e : QueueEntry}

/-! ## Usable ports (R112) -/

/-- A port is usable for a class record: it is not barred, and it is UP or SUSPECT. -/
def UsableFor (s : State) (r : ClassRecord) (p : PortId) : Prop :=
  r.barred.get p = none ∧ ((s.ports.get p).state = .up ∨ (s.ports.get p).state = .suspect)

theorem portTier_isSome_iff {p : PortId} : (portTier s r p).isSome = true ↔ UsableFor s r p := by
  rw [← Option.ne_none_iff_isSome, ne_eq, portTier_eq_none_iff, not_or, Bool.not_eq_true, Option.isSome_eq_false_iff,
    Option.isNone_iff_eq_none, UsableFor]
  refine and_congr_right fun _ => ?_
  tauto

theorem bestPort_usable (h : bestPort s r = some b) : b ∈ r.prefs ∧ UsableFor s r b := by
  obtain ⟨tier, hfirst, -⟩ := bestPort_eq_some h
  obtain ⟨htier, front, back, hsplit, -⟩ := firstInTier_eq_some_iff.mp hfirst
  exact ⟨by simp [hsplit], portTier_isSome_iff.mp (by simp [htier])⟩

/-! ## The law without usability -/

/-- A queue entry against the record of its class, but for the usability of its target. -/
structure EntryCore (r : ClassRecord) (e : QueueEntry) : Prop where
  waiting : r.status = .unplaced ∨ r.status = .placed
  place_iff : e.kind = .place ↔ r.current = none
  listed : e.target ∈ r.prefs
  elsewhere : r.current ≠ some e.target

/-- `SteerLaw` but for the usability of the targets in the move queue. -/
structure SteerCore (s : State) : Prop where
  store : StoreLaw s
  classes : ∀ c, ClassLaw (s.classes.get c)
  entries : ∀ e ∈ s.mux.queue, EntryCore (s.classes.get e.cls) e
  single : (s.mux.queue.map QueueEntry.cls).Nodup
  move : MoveLaw s
  strobes : StrobeLaw s.mux.pins
  unconfigured : s.ctl.config = none → ∀ c, (s.classes.get c).prefs = []
  joining : s.ctl.state = .joining → ∀ e ∈ s.mux.queue, e.kind = .place
  resetting : s.ctl.state = .resetting → s.mux.queue = [] ∧ s.mux.outstanding = none

/-- Every target in the move queue is usable for its class (R119). -/
def AllUsable (s : State) : Prop := ∀ e ∈ s.mux.queue, UsableFor s (s.classes.get e.cls) e.target

theorem steerLaw_iff : SteerLaw s ↔ SteerCore s ∧ AllUsable s := by
  constructor
  · intro h
    refine ⟨{ h with entries := fun e he => ?_ }, fun e he => ?_⟩
    · obtain ⟨hwaiting, hplace, hlisted, -, helsewhere⟩ := h.entries e he
      exact ⟨hwaiting, hplace, hlisted, helsewhere⟩
    · exact portTier_isSome_iff.mp (h.entries e he).usable
  · rintro ⟨h, husable⟩
    exact { h with
      entries := fun e he =>
        { h.entries e he with usable := portTier_isSome_iff.mpr (husable e he) } }

theorem SteerCore.of_law (h : SteerLaw s) : SteerCore s := (steerLaw_iff.mp h).1

theorem allUsable_of_law (h : SteerLaw s) : AllUsable s := (steerLaw_iff.mp h).2

/-- A class without a list has no entry in the queue. -/
theorem SteerCore.prefs_ne (h : SteerCore s) (he : e ∈ s.mux.queue) : (s.classes.get e.cls).prefs ≠ [] := by
  intro hprefs
  have hlisted := (h.entries e he).listed
  rw [hprefs] at hlisted
  cases hlisted

/-- Outside HOLD a station that does not steer has an empty move queue. -/
theorem SteerCore.queue_of_not_steers (h : SteerCore s) (hrunning : s.ctl.state ≠ .hold) (hsteers : steers s = false) :
    s.mux.queue = [] := by
  cases hstate : s.ctl.state with
  | hold => exact absurd hstate hrunning
  | resetting => exact (h.resetting hstate).1
  | joining => simp [steers, hstate] at hsteers
  | active => simp [steers, hstate] at hsteers
  | unconfigured =>
    refine List.eq_nil_iff_forall_not_mem.mpr fun e he => h.prefs_ne he ?_
    exact h.unconfigured (h.store.1 hstate) _

/-! ## States that agree in the law -/

/-- Two class records agree in all but the barred set, of which the second bars no more. -/
def SameClass (r r' : ClassRecord) : Prop :=
  r'.prefs = r.prefs ∧ r'.status = r.status ∧ r'.current = r.current ∧ r'.target = r.target ∧
    ∀ p, r.barred.get p = none → r'.barred.get p = none

theorem sameClass_refl (r : ClassRecord) : SameClass r r := ⟨rfl, rfl, rfl, rfl, fun _ h => h⟩

theorem classLaw_same {r' : ClassRecord} (h : SameClass r r') (hlaw : ClassLaw r) : ClassLaw r' := by
  obtain ⟨hprefs, hstatus, hcurrent, htarget, hbarred⟩ := h
  constructor
  · rw [hprefs, hcurrent]; exact hlaw.current_listed
  · rw [hprefs, htarget]; exact hlaw.target_listed
  · rw [hstatus, htarget]; exact hlaw.target_iff
  · rw [hstatus, hprefs]; exact hlaw.unused_iff
  · rw [hstatus, hcurrent]; exact hlaw.unplaced_current
  · rw [hstatus, hcurrent]; exact hlaw.placed_current
  · rw [hcurrent]; exact fun p hp => hbarred p (hlaw.current_open p hp)
  · rw [htarget]; exact fun p hp => hbarred p (hlaw.target_open p hp)
  · rw [htarget, hcurrent]; exact hlaw.target_elsewhere

theorem entryCore_same {r' : ClassRecord} (h : SameClass r r') (hentry : EntryCore r e) : EntryCore r' e := by
  obtain ⟨hprefs, hstatus, hcurrent, -, -⟩ := h
  constructor
  · rw [hstatus]; exact hentry.waiting
  · rw [hcurrent]; exact hentry.place_iff
  · rw [hprefs]; exact hentry.listed
  · rw [hcurrent]; exact hentry.elsewhere

theorem moveLaw_same (h : MoveLaw s) (hclasses : ∀ k, SameClass (s.classes.get k) (t.classes.get k))
    (hport : t.mux.port = s.mux.port) (hmove : t.mux.outstanding = s.mux.outstanding) : MoveLaw t where
  present_iff := by rw [hport, hmove]; exact h.present_iff
  moving_iff k := by
    obtain ⟨-, hstatus, -, -, -⟩ := hclasses k
    rw [hstatus, hmove]
    exact h.moving_iff k
  target_eq m hm := by
    obtain ⟨-, -, -, htarget, -⟩ := hclasses m.cls
    rw [htarget]
    exact h.target_eq m (hmove ▸ hm)
  cancelling_drained m hm hp := h.cancelling_drained m (hmove ▸ hm) (hport ▸ hp)
  drained_origin m hm hmode := by
    obtain ⟨-, -, hcurrent, -, -⟩ := hclasses m.cls
    rw [hcurrent]
    exact h.drained_origin m (hmove ▸ hm) hmode

/-- The law reads the class records, the move queue, the outstanding move, the port state, the pins and the store. -/
theorem steerCore_same (h : SteerCore s) (hclasses : ∀ k, SameClass (s.classes.get k) (t.classes.get k))
    (hqueue : t.mux.queue = s.mux.queue) (hport : t.mux.port = s.mux.port)
    (hmove : t.mux.outstanding = s.mux.outstanding) (hpins : StrobeLaw t.mux.pins)
    (hconfig : t.ctl.config = s.ctl.config) (hstore : StoreLaw t)
    (hjoining : t.ctl.state = .joining → ∀ e ∈ s.mux.queue, e.kind = .place)
    (hresetting : t.ctl.state = .resetting → s.mux.queue = [] ∧ s.mux.outstanding = none) : SteerCore t where
  store := hstore
  classes k := classLaw_same (hclasses k) (h.classes k)
  entries e he := entryCore_same (hclasses e.cls) (h.entries e (hqueue ▸ he))
  single := hqueue ▸ h.single
  move := moveLaw_same h.move hclasses hport hmove
  strobes := hpins
  unconfigured hnone k := by
    obtain ⟨hprefs, -⟩ := hclasses k
    rw [hprefs]
    exact h.unconfigured (hconfig ▸ hnone) k
  joining hstate e he := hjoining hstate e (hqueue ▸ he)
  resetting hstate := by
    rw [hqueue, hmove]
    exact hresetting hstate

theorem steerCore_congr (h : SteerCore s) (hclasses : t.classes = s.classes) (hmux : t.mux = s.mux)
    (hconfig : t.ctl.config = s.ctl.config) (hstate : t.ctl.state = s.ctl.state) : SteerCore t :=
  steerCore_same h (fun k => hclasses ▸ sameClass_refl _) (by rw [hmux]) (by rw [hmux]) (by rw [hmux])
    (hmux ▸ h.strobes) hconfig (storeLaw_congr h.store hconfig hstate) (hstate ▸ h.joining) (hstate ▸ h.resetting)

theorem allUsable_congr (h : AllUsable s) (hclasses : ∀ k, SameClass (s.classes.get k) (t.classes.get k))
    (hqueue : t.mux.queue = s.mux.queue) (hports : ∀ p, (t.ports.get p).state = (s.ports.get p).state) :
    AllUsable t := by
  intro e he
  obtain ⟨hopen, hcarrying⟩ := h e (hqueue ▸ he)
  obtain ⟨-, -, -, -, hbarred⟩ := hclasses e.cls
  exact ⟨hbarred _ hopen, by rw [hports]; exact hcarrying⟩

/-! ## The outcome of an evaluation -/

theorem decideMove_of_place (h : decideMove s r = .place b) : bestPort s r = some b ∧ r.current = none := by
  unfold decideMove at h
  split at h
  · cases h
  · split at h
    next hbest _ hcurrent => exact ⟨by rw [hbest]; cases h; rfl, hcurrent⟩
    next => grind

theorem decideMove_of_stay (h : decideMove s r = .stay) : r.current.isSome = true := by
  unfold decideMove at h
  split at h
  · cases h
  · split at h
    · cases h
    next cur hcurrent => simp [hcurrent]

/-- A move of a placed class goes to its best port, which is another one. -/
theorem decideMove_of_move (h : decideMove s r = .evacuate b ∨ decideMove s r = .shed b ∨ decideMove s r = .revert b) :
    bestPort s r = some b ∧ r.current.isSome = true ∧ r.current ≠ some b := by
  unfold decideMove at h
  split at h
  · simp at h
  · next best hbest =>
    split at h
    · simp at h
    · next cur hcurrent =>
      split at h
      · simp at h
      · next hne =>
        have hb : best = b := by
          split at h
          · simpa using h
          · split at h
            · simpa using h
            · split at h <;> simp at h
              exact h
          · simp at h
        subst hb
        exact ⟨hbest, by simp [hcurrent], by simpa [hcurrent] using hne⟩

/-- What an evaluation does: nothing to a class that waits for ACTIVE, an entry less, or a wanted move to the best
port. -/
theorem evaluate_outcome (h : evaluates s c = true) (hr : r = s.classes.get c) :
    (evaluate c s = s ∧ s.ctl.state = .joining ∧ r.current.isSome = true) ∨
    (∃ status, evaluate c s = evaluatedTo s c status (removeEntry c s.mux.queue) ∧
      (status = .placed ∧ r.current.isSome = true ∨ status = .stranded ∨ status = r.status)) ∨
    ∃ k b, evaluate c s = evaluatedTo s c (if k = .place then .unplaced else .placed) (wantedQueue s c k b) ∧
      bestPort s r = some b ∧ r.current ≠ some b ∧ (k = .place ↔ r.current = none) ∧
      (s.ctl.state = .joining → k = .place) := by
  subst hr
  have hstate := (steers_iff.mp (evaluates_iff.mp h).1).symm
  have hmoves {b : PortId} {k : MoveKind} (hd : decideMove s (s.classes.get c) = .evacuate b ∧ k = .evacuate ∨
      decideMove s (s.classes.get c) = .shed b ∧ k = .shed ∨ decideMove s (s.classes.get c) = .revert b ∧ k = .revert) :
      (evaluate c s = s ∧ s.ctl.state = .joining ∧ (s.classes.get c).current.isSome = true) ∨
      ∃ k b, evaluate c s = evaluatedTo s c (if k = .place then .unplaced else .placed) (wantedQueue s c k b) ∧
        bestPort s (s.classes.get c) = some b ∧ (s.classes.get c).current ≠ some b ∧
        (k = .place ↔ (s.classes.get c).current = none) ∧ (s.ctl.state = .joining → k = .place) := by
    have hd' : decideMove s (s.classes.get c) = .evacuate b ∨ decideMove s (s.classes.get c) = .shed b ∨
        decideMove s (s.classes.get c) = .revert b := by tauto
    obtain ⟨hbest, hcurrent, hne⟩ := decideMove_of_move hd'
    have hk : k ≠ .place := by rcases hd with ⟨-, hk⟩ | ⟨-, hk⟩ | ⟨-, hk⟩ <;> rw [hk] <;> simp
    rcases hstate with hactive | hjoining
    · refine .inr ⟨k, b, ?_, hbest, hne, ?_, fun hjoining => ?_⟩
      · rw [evaluate_moves h hactive hd, if_neg hk]
      · simp [hk, Option.ne_none_iff_isSome.mpr hcurrent]
      · rw [hactive] at hjoining
        cases hjoining
    · exact .inl ⟨evaluate_waits h hjoining hd', hjoining, hcurrent⟩
  cases hd : decideMove s (s.classes.get c) with
  | stranded =>
    rcases hstate with hactive | hjoining
    · exact .inr (.inl ⟨_, evaluate_stranded_active h hactive hd, .inr (.inl rfl)⟩)
    · exact .inr (.inl ⟨_, evaluate_stranded_joining h hjoining hd, .inr (.inr rfl)⟩)
  | place b =>
    obtain ⟨hbest, hcurrent⟩ := decideMove_of_place hd
    exact .inr (.inr ⟨.place, b, evaluate_place h hstate hd, hbest, by simp [hcurrent], by simp [hcurrent], fun _ => rfl⟩)
  | stay => exact .inr (.inl ⟨_, evaluate_stay h hstate hd, .inl ⟨rfl, decideMove_of_stay hd⟩⟩)
  | evacuate b => exact (hmoves (.inl ⟨hd, rfl⟩)).imp_right .inr
  | shed b => exact (hmoves (.inr (.inl ⟨hd, rfl⟩))).imp_right .inr
  | revert b => exact (hmoves (.inr (.inr ⟨hd, rfl⟩))).imp_right .inr

/-! ## Evaluations keep the law, and restore the usability of the targets -/

theorem evaluatedTo_get (s : State) (c : ClassId) (status : ClassStatus) (q : List QueueEntry) (k : ClassId) :
    (evaluatedTo s c status q).classes.get k =
      if k = c then { s.classes.get c with status := status } else s.classes.get k :=
  Eight.get_set _ _ _ _

/-- A new status of a class that is not MOVING and stays so. -/
theorem classLaw_status (h : ClassLaw r) (hprefs : r.prefs ≠ []) (hmoving : r.status ≠ .moving) {status : ClassStatus}
    (hstatus : status = .unplaced ∧ r.current = none ∨ status = .placed ∧ r.current.isSome = true ∨
      status = .stranded ∨ status = r.status) : ClassLaw { r with status := status } := by
  rcases hstatus with ⟨rfl, hcurrent⟩ | ⟨rfl, hcurrent⟩ | rfl | rfl
  · exact { h with
      target_iff := by simpa [hmoving] using h.target_iff
      unused_iff := by simp [hprefs]
      unplaced_current := fun _ => hcurrent
      placed_current := fun hs => by cases hs }
  · exact { h with
      target_iff := by simpa [hmoving] using h.target_iff
      unused_iff := by simp [hprefs]
      unplaced_current := fun hs => by cases hs
      placed_current := fun _ => hcurrent }
  · exact { h with
      target_iff := by simpa [hmoving] using h.target_iff
      unused_iff := by simp [hprefs]
      unplaced_current := fun hs => by cases hs
      placed_current := fun hs => by cases hs }
  · exact h

/-- A status and a queue written by an evaluation keep the law, if the entries of the class fit the status. -/
theorem steerCore_evaluatedTo (h : SteerCore s) (hev : evaluates s c = true) {status : ClassStatus}
    {q : List QueueEntry}
    (hstatus : status = .unplaced ∧ (s.classes.get c).current = none ∨
      status = .placed ∧ (s.classes.get c).current.isSome = true ∨ status = .stranded ∨
      status = (s.classes.get c).status)
    (hq : ∀ e ∈ q, (e ∈ s.mux.queue ∧ e.cls ≠ c) ∨
      (e.cls = c ∧ EntryCore { s.classes.get c with status := status } e ∧ (s.ctl.state = .joining → e.kind = .place)))
    (hsingle : (q.map QueueEntry.cls).Nodup) : SteerCore (evaluatedTo s c status q) := by
  obtain ⟨hsteers, hprefs, hmoving⟩ := evaluates_iff.mp hev
  have hkept (k : ClassId) : ((evaluatedTo s c status q).classes.get k).prefs = (s.classes.get k).prefs ∧
      ((evaluatedTo s c status q).classes.get k).current = (s.classes.get k).current ∧
      ((evaluatedTo s c status q).classes.get k).target = (s.classes.get k).target := by
    rw [evaluatedTo_get]
    split
    next hk => rw [hk]; exact ⟨rfl, rfl, rfl⟩
    next => exact ⟨rfl, rfl, rfl⟩
  have hstatusMoving : status ≠ .moving := by
    rcases hstatus with ⟨rfl, -⟩ | ⟨rfl, -⟩ | rfl | rfl
    · simp
    · simp
    · simp
    · exact hmoving
  constructor
  · exact storeLaw_congr h.store rfl rfl
  · intro k
    rw [evaluatedTo_get]
    split
    · exact classLaw_status (h.classes c) hprefs hmoving hstatus
    · exact h.classes k
  · intro e he
    rw [evaluatedTo_get]
    rcases hq e he with ⟨hmem, hcls⟩ | ⟨hcls, hentry, -⟩
    · rw [if_neg hcls]
      exact h.entries e hmem
    · rw [if_pos hcls]
      exact hentry
  · exact hsingle
  · constructor
    · exact h.move.present_iff
    · intro k
      refine Iff.trans ?_ (h.move.moving_iff k)
      rw [evaluatedTo_get]
      split
      next hk => simp [hk, hmoving, hstatusMoving]
      next => exact Iff.rfl
    · intro m hm
      obtain ⟨-, -, htarget⟩ := hkept m.cls
      rw [htarget]
      exact h.move.target_eq m hm
    · exact h.move.cancelling_drained
    · intro m hm hmode
      obtain ⟨-, hcurrent, -⟩ := hkept m.cls
      rw [hcurrent]
      exact h.move.drained_origin m hm hmode
  · exact h.strobes
  · intro hnone k
    rw [(hkept k).1]
    exact h.unconfigured hnone k
  · intro hstate e he
    rcases hq e he with ⟨hmem, -⟩ | ⟨-, -, hplace⟩
    · exact h.joining hstate e hmem
    · exact hplace hstate
  · intro hstate
    rcases steers_iff.mp hsteers with hs | hs
    · cases hs.symm.trans hstate
    · cases hs.symm.trans hstate

theorem removeEntry_single {q : List QueueEntry} (h : (q.map QueueEntry.cls).Nodup) (c : ClassId) :
    ((removeEntry c q).map QueueEntry.cls).Nodup :=
  h.sublist (List.filter_sublist.map _)

theorem steerCore_evaluate (h : SteerCore s) (c : ClassId) : SteerCore (evaluate c s) := by
  cases hev : evaluates s c with
  | false => rwa [evaluate_of_not_evaluates hev]
  | true =>
    rcases evaluate_outcome hev rfl with ⟨hsame, -, -⟩ | ⟨status, hresult, hstatus⟩ |
      ⟨k, b, hresult, hbest, hne, hplace, hjoining⟩
    · rwa [hsame]
    · rw [hresult]
      exact steerCore_evaluatedTo h hev (.inr hstatus)
        (fun e he => .inl ((mem_removeEntry c e _).mp he)) (removeEntry_single h.single c)
    · rw [hresult]
      refine steerCore_evaluatedTo h hev ?_ (fun e he => ?_) (wantedQueue_single s h.single)
      · split
        next hk => exact .inl ⟨rfl, hplace.mp hk⟩
        next hk => exact .inr (.inl ⟨rfl, Option.ne_none_iff_isSome.mp fun hnone => hk (hplace.mpr hnone)⟩)
      · rcases mem_wantedQueue s he with ⟨hcls, hkind, htarget⟩ | hold
        · refine .inr ⟨hcls, ⟨?_, ?_, ?_, ?_⟩, fun hstate => hkind.trans (hjoining hstate)⟩
          · dsimp only
            split
            · exact .inl rfl
            · exact .inr rfl
          · rw [hkind]
            exact hplace
          · rw [htarget]
            exact (bestPort_usable hbest).1
          · rw [htarget]
            exact hne
        · exact .inl hold

/-- What is usable is so before and after an evaluation, which changes no barred set and no port. -/
theorem usableFor_evaluate {k : ClassId} {p : PortId} :
    UsableFor (evaluate c s) ((evaluate c s).classes.get k) p ↔ UsableFor s (s.classes.get k) p := by
  obtain ⟨-, -, -, hbarred⟩ := evaluate_kept s c k
  rw [UsableFor, hbarred, evaluate_ports, UsableFor]

/-- An evaluation leaves the entries of the other classes, and its own class an entry with a usable target or none. -/
theorem evaluate_entry (h : SteerCore s) (hsteers : steers s = true) (he : e ∈ (evaluate c s).mux.queue) :
    (e.cls = c → UsableFor s (s.classes.get c) e.target) ∧ (e.cls ≠ c → e ∈ s.mux.queue) := by
  cases hev : evaluates s c with
  | false =>
    rw [evaluate_of_not_evaluates hev] at he
    refine ⟨fun hcls => ?_, fun _ => he⟩
    have hentry := h.entries e he
    have hprefs := h.prefs_ne he
    rw [hcls] at hentry hprefs
    have hmoving : (s.classes.get c).status ≠ .moving := by
      rcases hentry.waiting with hs | hs <;> rw [hs] <;> simp
    rw [evaluates_iff.mpr ⟨hsteers, hprefs, hmoving⟩] at hev
    cases hev
  | true =>
    rcases evaluate_outcome hev rfl with ⟨hsame, hstate, hcurrent⟩ | ⟨status, hresult, -⟩ |
      ⟨k, b, hresult, hbest, -, -, -⟩
    · rw [hsame] at he
      refine ⟨fun hcls => ?_, fun _ => he⟩
      have hnone := (h.entries e he).place_iff.mp (h.joining hstate e he)
      rw [hcls] at hnone
      rw [hnone] at hcurrent
      cases hcurrent
    · rw [hresult] at he
      obtain ⟨hmem, hcls⟩ := (mem_removeEntry c e _).mp he
      exact ⟨fun h => absurd h hcls, fun _ => hmem⟩
    · rw [hresult] at he
      rcases mem_wantedQueue s he with ⟨hcls, -, htarget⟩ | ⟨hmem, hcls⟩
      · exact ⟨fun _ => htarget ▸ (bestPort_usable hbest).2, fun hne => absurd hcls hne⟩
      · exact ⟨fun h => absurd h hcls, fun _ => hmem⟩

theorem steerCore_evaluateAll (h : SteerCore s) : SteerCore (evaluateAll s) :=
  evaluateAll_keeps s SteerCore (fun c _ ht => steerCore_evaluate ht c) h

/-- The evaluations of the classes `l`, one after the other, leave the entries of those classes with usable targets. -/
theorem evaluations_usable (l : List ClassId) (h : SteerCore s) (hsteers : steers s = true)
    (he : e ∈ (l.foldl (fun t c => evaluate c t) s).mux.queue) :
    (e.cls ∈ l → UsableFor s (s.classes.get e.cls) e.target) ∧ (e.cls ∉ l → e ∈ s.mux.queue) := by
  induction l generalizing s with
  | nil => exact ⟨fun hmem => absurd hmem List.not_mem_nil, fun _ => he⟩
  | cons c l ih =>
    obtain ⟨hlater, hbefore⟩ := ih (steerCore_evaluate h c) (by rwa [steers_of_ctl (evaluate_ctl s c)]) he
    rw [usableFor_evaluate] at hlater
    by_cases hl : e.cls ∈ l
    · exact ⟨fun _ => hlater hl, fun hnot => absurd (List.mem_cons_of_mem c hl) hnot⟩
    · obtain ⟨hown, hother⟩ := evaluate_entry h hsteers (hbefore hl)
      refine ⟨fun hmem => ?_, fun hnot => hother fun hcls => hnot (hcls ▸ List.mem_cons_self)⟩
      have hcls : e.cls = c := (List.mem_cons.mp hmem).resolve_right hl
      rw [hcls]
      exact hown hcls

theorem usableFor_evaluateAll {k : ClassId} {p : PortId} :
    UsableFor (evaluateAll s) ((evaluateAll s).classes.get k) p ↔ UsableFor s (s.classes.get k) p := by
  obtain ⟨-, -, -, hbarred⟩ := evaluateAll_kept s k
  rw [UsableFor, hbarred, evaluateAll_ports, UsableFor]

/-- The evaluations of all classes restore the law, but in HOLD, where there are none. -/
theorem steerLaw_evaluateAll (h : SteerCore s) (hrunning : s.ctl.state ≠ .hold) : SteerLaw (evaluateAll s) := by
  refine steerLaw_iff.mpr ⟨steerCore_evaluateAll h, fun e he => ?_⟩
  cases hsteers : steers s with
  | false =>
    rw [evaluateAll_of_not_steers hsteers, h.queue_of_not_steers hrunning hsteers] at he
    cases he
  | true => exact usableFor_evaluateAll.mpr ((evaluations_usable allClasses h hsteers he).1 (mem_allClasses _))

/-- The evaluation of one class keeps the whole law. -/
theorem steerLaw_evaluate (h : SteerLaw s) (c : ClassId) : SteerLaw (evaluate c s) := by
  obtain ⟨hcore, husable⟩ := steerLaw_iff.mp h
  refine steerLaw_iff.mpr ⟨steerCore_evaluate hcore c, fun e he => usableFor_evaluate.mpr ?_⟩
  cases hsteers : steers s with
  | false =>
    rw [evaluate_of_not_evaluates] at he
    · exact husable e he
    · exact Bool.eq_false_iff.mpr fun hev => by
        rw [(evaluates_iff.mp hev).1] at hsteers
        cases hsteers
  | true =>
    obtain ⟨hown, hother⟩ := evaluate_entry hcore hsteers he
    by_cases hcls : e.cls = c
    · rw [hcls]
      exact hown hcls
    · exact husable e (hother hcls)

end Sys2Proof.Machine
end

section
/-! PROOFS. The law of steering (R109 to R112, R119, R128, R133, R134, R136): the issue and the end of a move, the cancel,
MRDY and the resets, and every step. -/

namespace Sys2Proof.Machine

open Safety

variable {s t : State} {c : ClassId} {r : ClassRecord} {e : QueueEntry} {p : SteerPins}

/-! ## The output pins (R133) -/

theorem strobeLaw_halt (p : SteerPins) : StrobeLaw p.halt := ⟨by simp, by simp⟩

theorem strobeLaw_start (h : p.resting = true) (d : Drive) : StrobeLaw (p.start d) := by
  obtain ⟨hsetUp, hmreq, hmcan⟩ := (SteerPins.resting_iff p).mp h
  cases d with
  | request m => constructor <;> simp [SteerPins.start, setUpMicros, hmreq, hmcan]
  | cancel => constructor <;> simp [SteerPins.start, strobeMicros, hsetUp, hmreq]

theorem strobeLaw_drive (h : StrobeLaw p) (d : Drive) : StrobeLaw (p.drive d) := by
  rcases SteerPins.drive_cases d p with ⟨hresting, -, hdrive⟩ | ⟨hbusy, hdrive⟩ <;> rw [hdrive]
  · exact strobeLaw_start hresting d
  · have hone : p.setUp + p.mreq + p.mcan = 1 := by
      by_cases hwaiting : p.waiting = []
      · have halone := h.alone
        rw [SteerPins.resting_iff] at hbusy
        simp only [hwaiting, and_true] at hbusy
        omega
      · exact h.waiting hwaiting
    exact ⟨h.alone, fun _ => hone⟩

theorem strobeLaw_tick (h : StrobeLaw p) : StrobeLaw p.count.next := by
  by_cases hsetUp : p.setUp = 1
  · have halone := h.alone
    rw [SteerPins.next_count_of_setUp h hsetUp]
    refine ⟨?_, fun _ => ?_⟩ <;> dsimp only <;> omega
  · have hzero : p.setUp = 0 := by
      have halone := h.alone
      omega
    cases hwaiting : p.waiting with
    | nil =>
      rw [SteerPins.next_count_of_no_drive h hzero hwaiting]
      exact ⟨by simp [hzero], fun hw => absurd hwaiting hw⟩
    | cons d rest =>
      rw [SteerPins.next_count_of_drive h hzero hwaiting]
      exact strobeLaw_start (by simp [SteerPins.resting, hzero]) d

/-! ## Issue and cancel (R135, R136, R138) -/

/-- With no move outstanding no class is MOVING. -/
theorem not_moving_of_no_move (h : MoveLaw s) (hmove : s.mux.outstanding = none) (k : ClassId) :
    (s.classes.get k).status ≠ .moving := by
  intro hmoving
  obtain ⟨m, hm, -⟩ := (h.moving_iff k).mp hmoving
  rw [hmove] at hm
  cases hm

theorem outstanding_of_ready (h : MoveLaw s) (hport : s.mux.port = .ready ∨ s.mux.port = .offline) :
    s.mux.outstanding = none := by
  rw [← Option.not_isSome_iff_eq_none, h.present_iff]
  rcases hport with hport | hport <;> simp [hport]

/-- The record of the class of an entry that is issued. -/
theorem classLaw_issued (h : ClassLaw r) (hentry : EntryCore r e) (husable : UsableFor s r e.target) :
    ClassLaw { r with status := .moving, target := some e.target } where
  current_listed := h.current_listed
  target_listed p hp := Option.some.inj hp ▸ hentry.listed
  target_iff := by simp
  unused_iff := by
    have hprefs : r.prefs ≠ [] := List.ne_nil_of_mem hentry.listed
    simp [hprefs]
  unplaced_current hs := by cases hs
  placed_current hs := by cases hs
  current_open := h.current_open
  target_open p hp := Option.some.inj hp ▸ husable.1
  target_elsewhere p hp := Option.some.inj hp ▸ hentry.elsewhere

theorem steerLaw_issueEntry (h : SteerLaw s) (hissuable : issuable s = some e) : SteerLaw (issueEntry e s) := by
  obtain ⟨hcore, husable⟩ := steerLaw_iff.mp h
  obtain ⟨hready, hsteers, hfind⟩ := issuable_eq_some.mp hissuable
  have he := List.mem_of_find?_eq_some hfind
  have hentry := hcore.entries e he
  have hnone := outstanding_of_ready h.move (.inl hready)
  have hget (k : ClassId) : (issueEntry e s).classes.get k =
      if k = e.cls then { s.classes.get e.cls with status := .moving, target := some e.target }
      else s.classes.get k := Eight.get_set _ _ _ _
  have hothers {x : QueueEntry} (hx : x ∈ (issueEntry e s).mux.queue) :
      x ∈ s.mux.queue ∧ (issueEntry e s).classes.get x.cls = s.classes.get x.cls := by
    obtain ⟨hmem, hcls⟩ := (mem_removeEntry e.cls x _).mp hx
    exact ⟨hmem, (hget _).trans (if_neg hcls)⟩
  refine steerLaw_iff.mpr ⟨?core, fun x hx => ?usable⟩
  case usable =>
    obtain ⟨hmem, hsame⟩ := hothers hx
    rw [hsame]
    exact husable x hmem
  case core =>
    constructor
    · exact storeLaw_congr h.store rfl rfl
    · intro k
      rw [hget]
      split
      · exact classLaw_issued (h.classes e.cls) hentry (husable e he)
      · exact h.classes k
    · intro x hx
      obtain ⟨hmem, hsame⟩ := hothers hx
      rw [hsame]
      exact hcore.entries x hmem
    · exact removeEntry_single h.single e.cls
    · constructor
      · simp [issueEntry]
      · intro k
        rw [hget]
        split
        next hk => simp [issueEntry, hk]
        next hk => simp [issueEntry, not_moving_of_no_move h.move hnone k, Ne.symm hk]
      · intro m hm
        rw [← Option.some.inj hm, hget]
        simp
      · intro m hm hp
        cases hp
      · intro m hm hmode
        rw [← Option.some.inj hm] at hmode ⊢
        rw [hget]
        have hkind : e.kind ≠ .place := fun hk => by simp [hk, MoveKind.mode] at hmode
        simpa using Option.ne_none_iff_isSome.mp fun hcurrent => hkind (hentry.place_iff.mpr hcurrent)
    · exact strobeLaw_drive h.strobes _
    · intro hconfig k
      have hprefs := h.unconfigured hconfig e.cls
      exact absurd hprefs (List.ne_nil_of_mem hentry.listed)
    · intro hstate x hx
      exact h.joining hstate x (hothers hx).1
    · intro hstate
      simp [steers, show s.ctl.state = .resetting from hstate] at hsteers

theorem steerLaw_issueTest (h : SteerLaw s) : SteerLaw (issueTest s) := by
  rcases issueTest_outcome s with ⟨-, hissue⟩ | ⟨e, hissuable, hissue⟩ <;> rw [hissue]
  · exact h
  · exact steerLaw_issueEntry h hissuable

/-- The port state and the limit timers change while the outstanding move stays. -/
theorem steerCore_setPort (h : SteerCore s) {mux : Mux} (hqueue : mux.queue = s.mux.queue)
    (hmove : mux.outstanding = s.mux.outstanding) (hpins : StrobeLaw mux.pins)
    (hpresent : s.mux.outstanding.isSome = true ↔
      mux.port = .await ∨ mux.port = .cancelling ∨ mux.port = .stalled)
    (hdrained : ∀ m, s.mux.outstanding = some m → mux.port = .cancelling → m.mode = .drained) :
    SteerCore (s.setMux mux) where
  store := storeLaw_congr h.store rfl rfl
  classes := h.classes
  entries x hx := h.entries x (hqueue ▸ hx)
  single := by simpa [hqueue] using h.single
  move :=
    { present_iff := by simpa [hmove] using hpresent
      moving_iff := by simpa [hmove] using h.move.moving_iff
      target_eq := by simpa [hmove] using h.move.target_eq
      cancelling_drained := by simpa [hmove] using hdrained
      drained_origin := by simpa [hmove] using h.move.drained_origin }
  strobes := hpins
  unconfigured := h.unconfigured
  joining := by simpa [hqueue] using h.joining
  resetting := by simpa [hqueue, hmove] using h.resetting

theorem steerCore_sendCancel (h : SteerCore s) {m : Move} (hmove : s.mux.outstanding = some m)
    (hmode : m.mode = .drained) : SteerCore (sendCancel s) :=
  steerCore_setPort h rfl rfl (strobeLaw_drive h.strobes _) (by simp [hmove]) fun m' hm' _ =>
    Option.some.inj (hmove.symm.trans hm') ▸ hmode

theorem steerCore_stall (h : SteerCore s) (hport : s.mux.port = .await ∨ s.mux.port = .cancelling) :
    SteerCore (stall s) := by
  refine steerCore_setPort h rfl rfl h.strobes ?_ (by simp)
  rw [h.move.present_iff]
  rcases hport with hport | hport <;> simp [hport]

theorem steerCore_cancelTrigger (h : SteerCore s) (p : PortId) : SteerCore (cancelTrigger p s) := by
  unfold cancelTrigger
  split
  next m hm =>
    obtain ⟨-, hmove, hmode⟩ := drainedInAwait_eq_some.mp hm
    split
    · exact steerCore_sendCancel h hmove hmode
    · exact h
  next => exact h

/-- What changes no class record, no port state and no entry of the move queue keeps the usability of the targets. -/
theorem steerLaw_of_core (h : SteerLaw s) (hcore : SteerCore t) (hclasses : t.classes = s.classes)
    (hqueue : t.mux.queue = s.mux.queue) (hports : ∀ p, (t.ports.get p).state = (s.ports.get p).state) :
    SteerLaw t :=
  steerLaw_iff.mpr ⟨hcore, allUsable_congr (allUsable_of_law h) (fun _ => hclasses ▸ sameClass_refl _) hqueue hports⟩

theorem steerLaw_congr (h : SteerLaw s) (hclasses : t.classes = s.classes) (hmux : t.mux = s.mux)
    (hports : ∀ p, (t.ports.get p).state = (s.ports.get p).state) (hconfig : t.ctl.config = s.ctl.config)
    (hstate : t.ctl.state = s.ctl.state) : SteerLaw t :=
  steerLaw_of_core h (steerCore_congr (.of_law h) hclasses hmux hconfig hstate) hclasses (by rw [hmux]) hports

/-! ## The end of a move (R137, R139, R142) -/

/-- The outstanding move of a class ends: its record is written anew, and the port is READY or OFFLINE. -/
theorem steerLaw_ended (h : SteerLaw s) {m : Move} (hmove : s.mux.outstanding = some m) (hr : ClassLaw r)
    (hprefs : r.prefs = (s.classes.get m.cls).prefs) (hmoving : r.status ≠ .moving) {port : SteerState}
    (hport : port = .ready ∨ port = .offline) : SteerLaw ((s.setClass m.cls r).setMux (s.mux.endMove port)) := by
  obtain ⟨hcore, husable⟩ := steerLaw_iff.mp h
  have hget (k : ClassId) : ((s.setClass m.cls r).setMux (s.mux.endMove port)).classes.get k =
      if k = m.cls then r else s.classes.get k := Eight.get_set _ _ _ _
  have hothers {x : QueueEntry} (hx : x ∈ s.mux.queue) :
      ((s.setClass m.cls r).setMux (s.mux.endMove port)).classes.get x.cls = s.classes.get x.cls := by
    refine (hget _).trans (if_neg fun hcls => ?_)
    have hstatus := (h.move.moving_iff x.cls).mpr ⟨m, hmove, hcls.symm⟩
    rcases (hcore.entries x hx).waiting with hw | hw <;> rw [hw] at hstatus <;> cases hstatus
  refine steerLaw_iff.mpr ⟨?core, fun x hx => ?usable⟩
  case usable =>
    rw [hothers hx]
    exact husable x hx
  case core =>
    constructor
    · exact storeLaw_congr h.store rfl rfl
    · intro k
      rw [hget]
      split
      · exact hr
      · exact h.classes k
    · intro x hx
      rw [hothers hx]
      exact hcore.entries x hx
    · exact h.single
    · constructor
      · rcases hport with rfl | rfl <;> simp [Mux.endMove]
      · intro k
        rw [hget]
        split
        next => simp [Mux.endMove, hmoving]
        next hk =>
          have hnot : (s.classes.get k).status ≠ .moving := fun hs => by
            obtain ⟨m', hm', hcls⟩ := (h.move.moving_iff k).mp hs
            rw [Option.some.inj (hmove.symm.trans hm')] at hk
            exact hk hcls.symm
          simp [Mux.endMove, hnot]
      · intro m' hm'
        cases hm'
      · intro m' hm'
        cases hm'
      · intro m' hm'
        cases hm'
    · exact h.strobes
    · intro hconfig k
      rw [hget]
      split
      · exact hprefs.trans (h.unconfigured hconfig _)
      · exact h.unconfigured hconfig k
    · exact h.joining
    · intro hstate
      rw [(h.resetting hstate).2] at hmove
      cases hmove

theorem classLaw_arrive (h : ClassLaw r) {target : PortId} (htarget : r.target = some target) :
    ClassLaw (r.arrive target) where
  current_listed p hp := Option.some.inj hp ▸ h.target_listed _ htarget
  target_listed p hp := by cases hp
  target_iff := by simp [ClassRecord.arrive]
  unused_iff := by
    have hprefs : r.prefs ≠ [] := List.ne_nil_of_mem (h.target_listed _ htarget)
    simp [ClassRecord.arrive, hprefs]
  unplaced_current hs := by cases hs
  placed_current _ := rfl
  current_open p hp := Option.some.inj hp ▸ h.target_open _ htarget
  target_open p hp := by cases hp
  target_elsewhere p hp := by cases hp

/-- A class record without a target, PLACED on the port it has or UNPLACED without one. -/
theorem classLaw_settled (h : ClassLaw r) (hprefs : r.prefs ≠ []) (barred : Four (Option Timer))
    (hopen : ∀ p, r.current = some p → barred.get p = none) :
    ClassLaw { r.remain with barred := barred } := by
  constructor
  · exact h.current_listed
  · intro p hp
    cases hp
  · cases hc : r.current <;> simp [ClassRecord.remain, hc]
  · cases hc : r.current <;> simp [ClassRecord.remain, hc, hprefs]
  · cases hc : r.current <;> simp [ClassRecord.remain, hc]
  · cases hc : r.current <;> simp [ClassRecord.remain, hc]
  · exact hopen
  · intro p hp
    cases hp
  · intro p hp
    cases hp

theorem classLaw_unplace (hprefs : r.prefs ≠ []) : ClassLaw r.unplace := by
  constructor <;> simp [ClassRecord.unplace, hprefs]

theorem remain_status (r : ClassRecord) : r.remain.status ≠ .moving := by
  cases hc : r.current <;> simp [ClassRecord.remain, hc]

/-- The class of the outstanding move: it has the target of the move, and a list. -/
theorem class_of_move (h : SteerLaw s) {m : Move} (hmove : s.mux.outstanding = some m) :
    (s.classes.get m.cls).target = some m.target ∧ (s.classes.get m.cls).prefs ≠ [] := by
  have htarget := h.move.target_eq m hmove
  exact ⟨htarget, List.ne_nil_of_mem ((h.classes m.cls).target_listed _ htarget)⟩

theorem steerLaw_finishMove (h : SteerLaw s) {m : Move} (hmove : s.mux.outstanding = some m) (hr : ClassLaw r)
    (hprefs : r.prefs = (s.classes.get m.cls).prefs) (hmoving : r.status ≠ .moving) :
    SteerLaw (finishMove m.cls r s) :=
  steerLaw_issueTest (steerLaw_evaluate (steerLaw_ended h hmove hr hprefs hmoving (.inl rfl)) m.cls)

theorem steerLaw_abandonMove (h : SteerLaw s) : SteerLaw (abandonMove s) := by
  unfold abandonMove
  split
  next m hmove =>
    obtain ⟨-, hprefs⟩ := class_of_move h hmove
    exact steerLaw_evaluate (steerLaw_ended h hmove (classLaw_unplace hprefs) rfl
      (by simp [ClassRecord.unplace]) (.inr rfl)) m.cls
  next hmove =>
    exact steerLaw_of_core h (steerCore_setPort (.of_law h) rfl hmove.symm h.strobes (by simp [hmove, Mux.endMove])
      fun m hm => by
        rw [hmove] at hm
        cases hm) rfl rfl fun _ => rfl

/-! ## MRDY (R142, R143) -/

theorem steerLaw_recordMrdy (h : SteerLaw s) (level : Bool) : SteerLaw (recordMrdy level s) :=
  steerLaw_of_core h (steerCore_setPort (.of_law h) rfl rfl h.strobes h.move.present_iff
    h.move.cancelling_drained) rfl rfl fun _ => rfl

theorem steerLaw_goOffline (h : SteerLaw s) (hrunning : s.ctl.state ≠ .hold) : SteerLaw (goOffline s) := by
  have habandoned := steerLaw_abandonMove (steerLaw_recordMrdy h false)
  rw [goOffline_eq]
  split
  · refine steerLaw_evaluateAll (.of_law habandoned) ?_
    rwa [(abandonMove_onlySteers (recordMrdy false s)).ctl]
  · exact habandoned

/-- The law of a state with an empty move queue and no move outstanding. -/
theorem steerLaw_quiet (hstore : StoreLaw t) (hclasses : ∀ k, ClassLaw (t.classes.get k))
    (hmoving : ∀ k, (t.classes.get k).status ≠ .moving) (hqueue : t.mux.queue = []) (hmove : t.mux.outstanding = none)
    (hport : t.mux.port = .ready ∨ t.mux.port = .offline) (hpins : StrobeLaw t.mux.pins)
    (hlists : t.ctl.config = none → ∀ k, (t.classes.get k).prefs = []) : SteerLaw t where
  store := hstore
  classes := hclasses
  entries := by simp [hqueue]
  single := by simp [hqueue]
  move :=
    { present_iff := by rcases hport with hport | hport <;> simp [hmove, hport]
      moving_iff := fun k => by simp [hmoving k, hmove]
      target_eq := by simp [hmove]
      cancelling_drained := by simp [hmove]
      drained_origin := by simp [hmove] }
  strobes := hpins
  unconfigured := hlists
  joining := by simp [hqueue]
  resetting _ := ⟨hqueue, hmove⟩

theorem steerLaw_unplacedAll (h : SteerLaw s) (hport : s.mux.port = .offline) : SteerLaw (unplacedAll s) := by
  have hclass (k : ClassId) : ClassLaw ((unplacedAll s).classes.get k) ∧
      ((unplacedAll s).classes.get k).status ≠ .moving ∧
      ((unplacedAll s).classes.get k).prefs = (s.classes.get k).prefs := by
    by_cases hprefs : (s.classes.get k).prefs = []
    · rw [unplacedAll_unused hprefs]
      exact ⟨h.classes k, not_moving_of_no_move h.move (outstanding_of_ready h.move (.inr hport)) k, rfl⟩
    · rw [unplacedAll_inUse hprefs]
      exact ⟨classLaw_unplace hprefs, by simp, rfl⟩
  exact steerLaw_quiet (storeLaw_congr h.store rfl rfl) (fun k => (hclass k).1) (fun k => (hclass k).2.1) rfl rfl
    (.inl rfl) h.strobes fun hconfig k => (hclass k).2.2.trans (h.unconfigured hconfig k)

theorem steerLaw_comeOnline (h : SteerLaw s) (hport : s.mux.port = .offline) (hrunning : s.ctl.state ≠ .hold) :
    SteerLaw (comeOnline s) := by
  have hissued := steerLaw_issueTest (steerLaw_evaluateAll (.of_law (steerLaw_unplacedAll h hport)) hrunning)
  rw [comeOnline_eq]
  exact steerLaw_of_core hissued (steerCore_setPort (.of_law hissued) rfl rfl hissued.strobes
    hissued.move.present_iff hissued.move.cancelling_drained) rfl rfl fun _ => rfl

end Sys2Proof.Machine
end

section
/-! PROOFS. Epoch results as one function of the port record, and the law of steering over every command. -/

namespace Sys2Proof.Machine

open Safety

variable {s t : State} {r : ClassRecord}

/-! ## An epoch result (R23 to R26) -/

/-- The record of a port after an epoch result `e`. -/
def judged (c : Settings) (time : Time) (r : PortRecord) (e : Nat) : PortRecord :=
  match r.state with
  | .absent => r
  | .down => r
  | .probation =>
    if e = 0 then
      if r.cleanEpochs + 1 < c.probationEpochs then { r with cleanEpochs := r.cleanEpochs + 1 }
      else r.rise time c.revertHold
    else r.fall .errors
  | .up =>
    if newScore c r.score e = 1023 then r.fall .errors
    else if c.tHi ≤ newScore c r.score e then { r with score := newScore c r.score e, state := .suspect }
    else { r with score := newScore c r.score e }
  | .suspect =>
    if newScore c r.score e = 1023 then r.fall .errors
    else if newScore c r.score e ≤ c.tLo then { r with score := newScore c r.score e, state := .up }
    else { r with score := newScore c r.score e }

/-- The record of port `p` of `s` after an epoch result `e`. -/
def judgedPort (s : State) (p : PortId) (e : Nat) : PortRecord := judged (settings s) (now s) (s.ports.get p) e

/-- The lanes after an epoch result that changed the state of port `p`: a port that fell quietens its lane (R27). -/
def judgedLanes (s : State) (p : PortId) (e : Nat) : Four Lane :=
  if (judgedPort s p e).state = .down then s.lanes.set p (s.lanes.get p).quieten else s.lanes

/-- An epoch result writes the port record alone, or changes the state of the port, which is then handed onward. -/
theorem deliverEpoch_outcome (p : PortId) (e : Nat) (s : State) :
    ((judgedPort s p e).state = (s.ports.get p).state ∧ deliverEpoch p e s = s.setPort p (judgedPort s p e)) ∨
    ((judgedPort s p e).state ≠ (s.ports.get p).state ∧
      deliverEpoch p e s =
        portChanged p { s with lanes := judgedLanes s p e, ports := s.ports.set p (judgedPort s p e) }) := by
  have hsame : s.setPort p (s.ports.get p) = s := by simp [State.setPort]
  unfold deliverEpoch judgedLanes judgedPort judged
  cases hstate : (s.ports.get p).state with
  | absent => exact .inl ⟨hstate, hsame.symm⟩
  | down => exact .inl ⟨hstate, hsame.symm⟩
  | probation =>
    simp only [judgeProbation]
    split
    · split
      · exact .inl ⟨rfl, by rw [hstate]⟩
      · exact .inr ⟨by simp [PortRecord.rise], rfl⟩
    · exact .inr ⟨by simp [PortRecord.fall], rfl⟩
  | up =>
    simp only [judgeScore, hstate]
    split
    · exact .inr ⟨by simp [PortRecord.fall], rfl⟩
    · by_cases hhi : (settings s).tHi ≤ newScore (settings s) (s.ports.get p).score e
      · simp only [hhi, decide_true, Bool.and_self, if_true]
        exact .inr ⟨by simp, rfl⟩
      · simp only [hhi, decide_false, Bool.and_false, if_false]
        exact .inl ⟨trivial, rfl⟩
  | suspect =>
    simp only [judgeScore, hstate]
    split
    · exact .inr ⟨by simp [PortRecord.fall], rfl⟩
    · by_cases hlo : newScore (settings s) (s.ports.get p).score e ≤ (settings s).tLo
      · simp only [hlo, decide_true, Bool.and_self, if_true]
        exact .inr ⟨by simp, rfl⟩
      · simp only [hlo, decide_false, Bool.and_false, if_false]
        exact .inl ⟨trivial, rfl⟩

/-! ## The law outside HOLD, under the operations that other blocks call on -/

/-- The law of steering, in a station that is not in HOLD. -/
structure SteerRunning (s : State) : Prop where
  law : SteerLaw s
  running : s.ctl.state ≠ .hold

theorem steerRunning_congr (h : SteerRunning s) (hclasses : t.classes = s.classes) (hmux : t.mux = s.mux)
    (hports : ∀ p, (t.ports.get p).state = (s.ports.get p).state) (hconfig : t.ctl.config = s.ctl.config)
    (hstate : t.ctl.state = s.ctl.state) : SteerRunning t :=
  ⟨steerLaw_congr h.law hclasses hmux hports hconfig hstate, hstate ▸ h.running⟩

/-- Nothing of steering, of the ports and of the station changes. -/
theorem steerRunning_same (h : SteerRunning s) (hclasses : t.classes = s.classes) (hmux : t.mux = s.mux)
    (hports : t.ports = s.ports) (hctl : t.ctl = s.ctl) : SteerRunning t :=
  steerRunning_congr h hclasses hmux (fun _ => by rw [hports]) (by rw [hctl]) (by rw [hctl])

theorem steerRunning_active (h : SteerRunning s) (hstate : s.ctl.state = .joining) :
    SteerRunning (s.setStation { s.ctl with state := .active, joinTime := .stopped }) := by
  have hstore : StoreLaw (s.setStation { s.ctl with state := .active, joinTime := .stopped }) :=
    storeLaw_of_config (h.law.store.2 (steers_of_joining hstate)) (by simp)
  refine ⟨steerLaw_of_core h.law ?_ rfl rfl fun _ => rfl, by simp⟩
  exact steerCore_same (.of_law h.law) (fun _ => sameClass_refl _) rfl rfl rfl h.law.strobes rfl hstore
    (fun hs => by cases hs) fun hs => by cases hs

theorem steerRunning_ops : KeptByOps SteerRunning where
  evaluate s c hs := ⟨steerLaw_evaluate hs.law c, by simpa using hs.running⟩
  issueTest s hs := ⟨steerLaw_issueTest hs.law, by simpa using hs.running⟩
  cancelTrigger s p hs :=
    ⟨steerLaw_of_core hs.law (steerCore_cancelTrigger (.of_law hs.law) p) (by simp) (cancelTrigger_queue s p)
      (by simp), by simpa using hs.running⟩
  opinions _ _ hs := steerRunning_same hs rfl rfl rfl rfl
  cause _ hs := steerRunning_same hs (by simp) (by simp) (by simp) (by simp)
  request _ hs := steerRunning_same hs (by simp) (by simp) (by simp) (by simp)
  active _ hstate hs := steerRunning_active hs hstate

/-- A change of a port state may leave entries with unusable targets until the evaluations. -/
theorem steerRunning_portChanged (h : SteerCore s) (hrunning : s.ctl.state ≠ .hold) (p : PortId) :
    SteerRunning (portChanged p s) := by
  have hrederived : SteerCore (rederive s) := steerCore_congr h (by simp) (by simp) (by simp) (by simp)
  have hevaluated : SteerLaw (evaluateAll (cancelTrigger p (rederive s))) :=
    steerLaw_evaluateAll (steerCore_cancelTrigger hrederived p) (by simpa using hrunning)
  exact steerRunning_ops.joiningTest ⟨steerLaw_issueTest hevaluated, by simpa using hrunning⟩

theorem steerRunning_handed (h : SteerRunning s) (p : PortId) (lanes : Four Lane) (ports : Four PortRecord) :
    SteerRunning (portChanged p { s with lanes := lanes, ports := ports }) :=
  steerRunning_portChanged (s := { s with lanes := lanes, ports := ports })
    (steerCore_congr (.of_law h.law) rfl rfl rfl rfl) h.running p

theorem steerRunning_setPort (h : SteerRunning s) (p : PortId) {r : PortRecord}
    (hstate : r.state = (s.ports.get p).state) : SteerRunning (s.setPort p r) :=
  steerRunning_congr h rfl rfl (fun q => by by_cases hq : q = p <;> simp [Four.get_set, hq, hstate]) rfl rfl

theorem steerRunning_lines : KeptByLines SteerRunning where
  count _ _ hs := steerRunning_same hs rfl rfl rfl rfl
  lane _ _ _ _ _ hs := steerRunning_same hs rfl rfl rfl rfl
  down _ p _ _ _ hs := steerRunning_handed hs p _ _
  probation _ p _ hs := steerRunning_handed hs p _ _
  close _ _ hs := steerRunning_same hs rfl rfl rfl rfl
  deliver s p e hs := by
    rcases deliverEpoch_outcome p e s with ⟨hstate, h⟩ | ⟨-, h⟩ <;> rw [h]
    · exact steerRunning_setPort hs p hstate
    · exact steerRunning_handed hs p _ _
  revert s p _ _ hs := steerRunning_ops.evaluated (steerRunning_setPort hs p rfl)

theorem steerRunning_busFree : BusFree SteerRunning := fun _ _ _ _ _ _ _ _ hs =>
  steerRunning_congr hs rfl rfl (fun _ => rfl) rfl rfl

/-! ## Configuration, the resets and HOLD -/

theorem classLaw_configured (prefs : List PortId) : ClassLaw (configuredClass prefs) := by
  cases prefs <;> constructor <;> simp [configuredClass]

theorem configuredClass_status (prefs : List PortId) : (configuredClass prefs).status ≠ .moving := by
  cases prefs <;> simp [configuredClass]

/-- Before configuration no class is in use, so that no entry waits and no move is outstanding. -/
theorem quiet_of_unconfigured (h : SteerLaw s) (hstate : s.ctl.state = .unconfigured) :
    s.mux.queue = [] ∧ s.mux.outstanding = none ∧ (s.mux.port = .ready ∨ s.mux.port = .offline) := by
  have hlists := h.unconfigured (h.store.1 hstate)
  have hmove : s.mux.outstanding = none := Option.eq_none_iff_forall_ne_some.mpr fun m hm =>
    (class_of_move h hm).2 (hlists m.cls)
  refine ⟨(SteerCore.of_law h).queue_of_not_steers (by simp [hstate]) (by simp [steers, hstate]), hmove, ?_⟩
  have hpresent := h.move.present_iff
  rw [hmove] at hpresent
  cases hport : s.mux.port <;> simp_all

theorem steerRunning_configure {c : Settings} (hstate : s.ctl.state = .unconfigured) (hs : SteerRunning s) :
    SteerRunning (configure c s) := by
  obtain ⟨hqueue, hmove, hport⟩ := quiet_of_unconfigured hs.law hstate
  refine steerRunning_ops.configure steerRunning_lines (fun _ => steerRunning_busFree.startBeacon) ⟨?_, by simp [joined]⟩
  have hget (k : ClassId) : (joined (applySettings c s)).classes.get k = configuredClass (c.lists.get k) :=
    Eight.get_build _ _
  exact steerLaw_quiet (storeLaw_of_config rfl (by simp [joined])) (fun k => hget k ▸ classLaw_configured _)
    (fun k => hget k ▸ configuredClass_status _) hqueue hmove hport hs.law.strobes fun hnone => by cases hnone

theorem classLaw_warmReset (h : ClassLaw r) : ClassLaw r.warmReset ∧ r.warmReset.status ≠ .moving ∧
    r.warmReset.prefs = r.prefs := by
  have hunused := h.unused_iff
  have hplaced := h.placed_current
  have hlisted := h.current_listed
  cases hstatus : r.status <;> simp only [hstatus, reduceCtorEq, true_iff, false_iff, forall_const] at hunused hplaced
  case stranded =>
    cases hcurrent : r.current <;>
      refine ⟨?_, by simp [ClassRecord.warmReset, ClassRecord.unplace, hstatus, hcurrent],
        by simp [ClassRecord.warmReset, ClassRecord.unplace, hstatus, hcurrent]⟩ <;>
      constructor <;> simp_all [ClassRecord.warmReset, ClassRecord.unplace]
  all_goals
    refine ⟨?_, by simp [ClassRecord.warmReset, ClassRecord.unplace, hstatus],
      by simp [ClassRecord.warmReset, ClassRecord.unplace, hstatus]⟩
    constructor <;> simp_all [ClassRecord.warmReset, ClassRecord.unplace]

theorem steerLaw_warmReset (h : SteerLaw s) : SteerLaw (warmReset s) := by
  have hclass (k : ClassId) := classLaw_warmReset (h.classes k)
  have hget (k : ClassId) : (warmReset s).classes.get k = (s.classes.get k).warmReset := Eight.get_map _ _ _
  exact steerLaw_quiet (storeLaw_of_not_steers (.inr rfl)) (fun k => hget k ▸ (hclass k).1)
    (fun k => hget k ▸ (hclass k).2.1) rfl rfl (portFromMrdy_cases _) (strobeLaw_halt _)
    fun hconfig k => hget k ▸ (hclass k).2.2.trans (h.unconfigured hconfig k)

theorem steerRunning_endWarmReset (hstate : s.ctl.state = .resetting) (hs : SteerRunning s) :
    SteerRunning (endWarmReset s) := by
  obtain ⟨hqueue, hmove⟩ := hs.law.resetting hstate
  have hquiet {t : State} (hstore : StoreLaw t) (hclasses : t.classes = s.classes) (hmux : t.mux = (resetOver s).mux)
      (hconfig : t.ctl.config = s.ctl.config) : SteerLaw t :=
    steerLaw_quiet hstore (fun k => hclasses ▸ hs.law.classes k)
      (fun k => hclasses ▸ not_moving_of_no_move hs.law.move hmove k) (hmux ▸ hqueue) (hmux ▸ hmove)
      (hmux ▸ portFromMrdy_cases _) (hmux ▸ hs.law.strobes)
      fun hnone k => hclasses ▸ hs.law.unconfigured (hconfig ▸ hnone) k
  refine steerRunning_ops.endWarmReset steerRunning_lines (fun _ => steerRunning_busFree.startBeacon)
    (fun hconfig => ⟨?_, by simp [joined]⟩) fun hnone => ⟨?_, by simp [unjoined]⟩
  · exact hquiet (storeLaw_of_config hconfig (by simp [joined])) rfl rfl rfl
  · exact hquiet ⟨fun _ => hnone, fun h => by simp [steers, unjoined] at h⟩ rfl rfl rfl

theorem steerLaw_coldReset (pins : Pins) (s : State) : SteerLaw (coldReset pins s) := by
  rw [coldReset_eq]
  have hget (k : ClassId) : (coldState pins s.pending).classes.get k = configuredClass [] := Eight.get_all _ _
  refine steerLaw_quiet ⟨fun _ => rfl, fun h => ?_⟩ (fun k => hget k ▸ classLaw_configured [])
    (fun k => hget k ▸ configuredClass_status []) rfl rfl (portFromMrdy_cases _) ⟨by simp [coldState, coldMux], by
      simp [coldState, coldMux]⟩ fun _ k => hget k ▸ rfl
  cases hrstn : pins.rstn <;> simp [steers, hrstn] at h

theorem steerLaw_enterHold (h : SteerLaw s) : SteerLaw (enterHold s) := by
  have hsame (k : ClassId) : SameClass (s.classes.get k) ((enterHold s).classes.get k) := by
    refine ⟨by simp [enterHold, ClassRecord.hold], by simp [enterHold, ClassRecord.hold],
      by simp [enterHold, ClassRecord.hold], by simp [enterHold, ClassRecord.hold], fun p hp => ?_⟩
    simp [enterHold, ClassRecord.hold, hp]
  refine steerLaw_iff.mpr ⟨?_, allUsable_congr (allUsable_of_law h) hsame rfl fun p => ?_⟩
  · exact steerCore_same (.of_law h) hsame rfl rfl rfl (strobeLaw_halt _) rfl (storeLaw_of_not_steers (.inl rfl))
      (fun hs => by cases hs) fun hs => by cases hs
  · simp [enterHold, PortRecord.hold]

/-! ## Every command -/

theorem steerLaw_unbar (h : SteerLaw s) (c : ClassId) (p : PortId) :
    SteerLaw (s.setClass c ((s.classes.get c).unbar p)) := by
  have hsame (k : ClassId) :
      SameClass (s.classes.get k) ((s.setClass c ((s.classes.get c).unbar p)).classes.get k) := by
    by_cases hk : k = c
    · subst hk
      simp only [State.setClass_classes, Eight.get_set_same]
      refine ⟨rfl, rfl, rfl, rfl, fun q hq => ?_⟩
      by_cases hqp : q = p <;> simp [ClassRecord.unbar, Four.get_set, hqp, hq]
    · simp only [State.setClass_classes, Eight.get_set_other _ _ hk]
      exact sameClass_refl _
  exact steerLaw_iff.mpr ⟨steerCore_same (.of_law h) hsame rfl rfl rfl h.strobes rfl (storeLaw_congr h.store rfl rfl)
    h.joining h.resetting, allUsable_congr (allUsable_of_law h) hsame rfl fun _ => rfl⟩

theorem steerRunning_steering : KeptBySteering SteerRunning SteerLaw where
  unbar _ c p _ hs := steerLaw_issueTest (steerLaw_evaluate (steerLaw_unbar hs.law c p) c)
  issue _ hs := steerLaw_issueTest hs.law
  arrive _ m _ hmove hs :=
    steerLaw_finishMove hs.law hmove (classLaw_arrive (hs.law.classes _) (class_of_move hs.law hmove).1) rfl
      (by simp [ClassRecord.arrive])
  refuse s m t _ hmove hs := by
    obtain ⟨htarget, hprefs⟩ := class_of_move hs.law hmove
    have hclass := hs.law.classes m.cls
    refine steerLaw_finishMove hs.law hmove
      (classLaw_settled hclass hprefs ((s.classes.get m.cls).barred.set m.target (some t)) fun p hp => ?_) rfl
      (remain_status _)
    have hne : p ≠ m.target := fun h => hclass.target_elsewhere _ htarget (h ▸ hp)
    rw [Four.get_set_other _ _ hne]
    exact hclass.current_open p hp
  remain s m _ hmove hs := by
    have hclass := hs.law.classes m.cls
    exact steerLaw_finishMove hs.law hmove
      (classLaw_settled hclass (class_of_move hs.law hmove).2 (s.classes.get m.cls).barred hclass.current_open) rfl
      (remain_status _)
  answerLimit s m hport hmove hs := by
    unfold answerLimitPassed
    split
    next => exact steerLaw_of_core hs.law (steerCore_stall (.of_law hs.law) (.inl hport)) rfl rfl fun _ => rfl
    next hmode =>
      exact steerLaw_of_core hs.law (steerCore_sendCancel (.of_law hs.law) hmove hmode) rfl rfl fun _ => rfl
  cancelLimit s hport hs :=
    steerLaw_of_core hs.law (steerCore_stall (.of_law hs.law) (.inr hport)) rfl rfl fun _ => rfl
  mrdy _ level hs := steerLaw_recordMrdy hs.law level
  offline _ _ hs := steerLaw_goOffline hs.law hs.running
  online _ _ hport hs := steerLaw_comeOnline hs.law hport hs.running

theorem steerRunning_warmReset (hs : SteerRunning s) : SteerRunning (warmReset s) :=
  ⟨steerLaw_warmReset hs.law, by simp [warmReset]⟩

theorem steerRunning_station : KeptByStation SteerRunning SteerLaw where
  defaults s hstate hs :=
    (steerRunning_configure (s := s.setStation { s.ctl with defaulted := true }) hstate
      (steerRunning_congr hs rfl rfl (fun _ => rfl) rfl rfl)).law
  active _ hstate hs := (steerRunning_ops.enterActive hstate hs).law
  reset s _ hs :=
    (steerRunning_warmReset (s := s.setStation { s.ctl with rstnHigh := false })
      (steerRunning_congr hs rfl rfl (fun _ => rfl) rfl rfl)).law
  rstn s level quiet hs :=
    steerLaw_congr (t := s.setStation { s.ctl with rstnHigh := level, resetQuiet := quiet }) hs.law rfl rfl
      (fun _ => rfl) rfl rfl
  resetEnd _ hstate hs := (steerRunning_endWarmReset hstate hs).law
  hold _ _ hs := steerLaw_enterHold hs.law
  cold _ _ hstate hs := absurd hstate hs.running

theorem steerRunning_events : KeptByEvents SteerRunning SteerLaw where
  stays _ hs := hs.law
  lines := steerRunning_lines
  bus := (steerRunning_busFree.keptByBus
    (fun _ _ _ _ hs => steerRunning_congr hs rfl rfl (fun _ => rfl) rfl rfl)
    (fun _ hs => steerRunning_warmReset hs) (fun _ _ hstate hs => steerRunning_configure hstate hs)
    (fun _ hs => steerRunning_same hs rfl rfl rfl rfl)).mono (fun _ hs => hs) fun _ hs => SteerRunning.law hs
  peers := (steerRunning_ops.peers steerRunning_busFree fun _ _ _ hs => steerRunning_same hs rfl rfl rfl rfl).mono
    (fun _ hs => hs) fun _ hs => SteerRunning.law hs
  steering := steerRunning_steering
  station := steerRunning_station

theorem steerLaw_exec (h : SteerLaw s) {c : Instr} (ht : exec c s = .next t) : SteerLaw t := by
  by_cases hhold : s.ctl.state = .hold
  · by_cases hc : ∀ pins, c ≠ .supplyGood pins
    · cases (exec_of_hold hhold hc).symm.trans ht
      exact h
    · obtain ⟨pins, hpins⟩ := not_forall.mp hc
      rw [not_not.mp hpins] at ht
      cases (exec_supplyGood pins hhold).symm.trans ht
      exact steerLaw_coldReset pins s
  · exact (steerRunning_events.exec ⟨h, hhold⟩ c).of_next ht

theorem steerLaw_passMicro (h : SteerLaw s) : SteerLaw (passMicro s) := by
  by_cases hhold : s.ctl.state = .hold
  · rw [passMicro_of_hold hhold]
    exact h
  · obtain ⟨-, hstate, hconfig⟩ := Station.tick_kept s.ctl
    rw [passMicro_of_not_hold hhold]
    refine steerLaw_of_core h (steerCore_same (.of_law h) (fun _ => sameClass_refl _) rfl rfl rfl
      (strobeLaw_tick h.strobes) hconfig (storeLaw_congr h.store hconfig hstate) ?_ ?_) rfl rfl fun _ => rfl
    · exact fun hs => h.joining (hstate.symm.trans hs)
    · exact fun hs => h.resetting (hstate.symm.trans hs)

end Sys2Proof.Machine

namespace Sys2Proof.Proofs

open Sys2Proof.Machine Sys2Proof.Safety

/-- Settles O9: the law without the usability of the targets is kept by every part of a command, and the evaluations
that follow each change of a port state restore the rest. -/
theorem steeringKeepsItsLaw : Obligations.SteeringKeepsItsLaw := by
  intro s t hs ht
  have hpending (q : List Instr) : SteerLaw { s with pending := q } :=
    steerLaw_congr hs rfl rfl (fun _ => rfl) rfl rfl
  cases hqueue : s.pending with
  | cons c rest =>
    rw [step_of_pending hqueue] at ht
    exact steerLaw_exec (hpending rest) ht
  | nil =>
    rw [step_of_empty hqueue] at ht
    cases ht
    cases hdue : dueCommands s with
    | cons c rest =>
      rw [idle_of_due hdue]
      exact hpending _
    | nil =>
      rw [idle_of_none hdue]
      exact steerLaw_passMicro hs

end Sys2Proof.Proofs
end

section
/-! PROOFS. Entry to JOINING with nothing to steer: the state cause, the lane status reports, and what they leave (R17,
R22, R33, R77, R151, R157). -/

namespace Sys2Proof.Machine

open Safety

variable {s t : State} {p : PortId} {c : ClassId}

/-! ## Opinions that a port in PROBATION leaves (R32) -/

/-- Two port states count alike for the own opinions. -/
def LikeState (a b : PortState) : Prop :=
  (a == .up) = (b == .up) ∧ (a == .down || a == .probation) = (b == .down || b == .probation)

theorem likeState_refl (a : PortState) : LikeState a a := ⟨rfl, rfl⟩

theorem likeState_down_probation : LikeState .down .probation := ⟨rfl, rfl⟩

theorem opinionOf_like {f g : PortId → PortState} (h : ∀ p, LikeState (f p) (g p)) (l : List PortId) :
    opinionOf (l.map f) = opinionOf (l.map g) := by
  have hup : (fun p => f p == .up) = fun p => g p == .up := funext fun p => (h p).1
  have hlost : (fun p => f p == .down || f p == .probation) = fun p => g p == .down || g p == .probation :=
    funext fun p => (h p).2
  simp only [opinionOf, List.isEmpty_map, List.all_map, Function.comp_def, hup, hlost]

theorem deriveOpinions_like (hconfig : t.ctl.config = s.ctl.config)
    (h : ∀ p, LikeState (s.ports.get p).state (t.ports.get p).state) : deriveOpinions t = deriveOpinions s := by
  refine Eight.eq_of_get fun sw => ?_
  simp only [deriveOpinions, Eight.get_build, ownOpinion, hconfig]
  exact (opinionOf_like h _).symm

theorem deriveOpinions_inProbation (hdown : (s.ports.get p).state = .down) :
    deriveOpinions (inProbation p s) = deriveOpinions s := by
  refine deriveOpinions_like rfl fun q => ?_
  by_cases hq : q = p
  · subst hq
    rw [inProbation_state, hdown]
    exact likeState_down_probation
  · simpa [inProbation, Four.get_set, hq] using likeState_refl _

/-! ## A HEALTH that is due already (R55) -/

theorem healthCause_eq_bus (s : State) : healthCause s = { s with bus := (healthCause s).bus } := by
  cases hgate : healthGate s with
  | false => rw [healthCause_of_closed hgate]
  | true =>
    by_cases hsending : ∃ n, s.bus.activity = .sending .health n
    · rw [healthCause_of_sending hgate hsending]
      rfl
    · by_cases hqueue : TxEntry.health ∈ s.bus.queue
      · rw [healthCause_of_waiting (not_exists.mp hsending) hqueue]
      · rw [healthCause_of_none hgate (not_exists.mp hsending) hqueue]
        rfl

/-- A cause reads the bus and the station alone. -/
theorem healthCause_bus_congr (hbus : t.bus = s.bus) (hctl : t.ctl = s.ctl) :
    (healthCause t).bus = (healthCause s).bus := by
  have hgate : healthGate t = healthGate s := by simp [healthGate, steers, hctl]
  cases hopen : healthGate s with
  | false => rw [healthCause_of_closed hopen, healthCause_of_closed (hgate.trans hopen), hbus]
  | true =>
    by_cases hsending : ∃ n, s.bus.activity = .sending .health n
    · rw [healthCause_of_sending hopen hsending, healthCause_of_sending (hgate.trans hopen) (hbus ▸ hsending)]
      simp [hbus]
    · have hnot : ∀ n, t.bus.activity ≠ .sending .health n := hbus ▸ not_exists.mp hsending
      by_cases hqueue : TxEntry.health ∈ s.bus.queue
      · rw [healthCause_of_waiting (not_exists.mp hsending) hqueue, healthCause_of_waiting hnot (hbus ▸ hqueue), hbus]
      · rw [healthCause_of_none hopen (not_exists.mp hsending) hqueue,
          healthCause_of_none (hgate.trans hopen) hnot (hbus ▸ hqueue)]
        simp [hbus]

/-- A second cause finds the HEALTH due already. -/
theorem healthCause_again (s : State) : (healthCause (healthCause s)).bus = (healthCause s).bus := by
  cases hgate : healthGate s with
  | false => rw [healthCause_of_closed hgate, healthCause_of_closed hgate]
  | true =>
    by_cases hsending : ∃ n, s.bus.activity = .sending .health n
    · rw [healthCause_of_sending hgate hsending,
        healthCause_of_sending (s := s.setBus { s.bus with dueMark := true }) hgate hsending]
      rfl
    · have hnot := not_exists.mp hsending
      by_cases hqueue : TxEntry.health ∈ s.bus.queue
      · rw [healthCause_of_waiting hnot hqueue, healthCause_of_waiting hnot hqueue]
      · rw [healthCause_of_none hgate hnot hqueue,
          healthCause_of_waiting (s := s.setBus { s.bus with queue := s.bus.queue ++ [.health] }) hnot (by simp)]

theorem healthCause_twice (s : State) : healthCause (healthCause s) = healthCause s := by
  rw [healthCause_eq_bus (healthCause s), healthCause_again]

/-! ## The own opinions derived again (R33) -/

theorem requestRecompute_eq_verdicts (s : State) :
    requestRecompute s = { s with verdicts := (requestRecompute s).verdicts } := by
  cases hactivity : s.verdicts.activity with
  | idle => rw [requestRecompute_of_idle hactivity]; rfl
  | recomputing r => rw [requestRecompute_of_recomputing hactivity]

theorem rederive_eq (s : State) : rederive s =
    { s with opinions := deriveOpinions s, bus := (rederive s).bus, verdicts := (rederive s).verdicts } := by
  by_cases h : deriveOpinions s = s.opinions
  · rw [rederive_of_same h, h]
  · rw [rederive_of_changed h, requestRecompute_eq_verdicts, healthCause_eq_bus]

/-- Where a HEALTH is due already the own opinions bring no other. -/
theorem rederive_bus (h : (healthCause s).bus = s.bus) : (rederive s).bus = s.bus := by
  by_cases hsame : deriveOpinions s = s.opinions
  · rw [rederive_of_same hsame]
  · rw [rederive_of_changed hsame, requestRecompute_bus]
    exact (healthCause_bus_congr (s := s) (t := { s with opinions := deriveOpinions s }) rfl rfl).trans h

theorem rederive_activity (h : s.verdicts.activity ≠ .idle) : (rederive s).verdicts.activity ≠ .idle := by
  by_cases hsame : deriveOpinions s = s.opinions
  · rwa [rederive_of_same hsame]
  · rw [rederive_of_changed hsame]
    exact requestRecompute_activity _

/-! ## A station with nothing to steer -/

/-- No entry waits in the move queue, the port is not in AWAIT, and no port is usable. -/
structure Settled (s : State) : Prop where
  queue : s.mux.queue = []
  port : s.mux.port ≠ .await
  ports : ∀ p, (s.ports.get p).state ≠ .up ∧ (s.ports.get p).state ≠ .suspect

theorem issueTest_of_no_entry (h : s.mux.queue = []) : issueTest s = s := by
  refine issueTest_of_none (Option.eq_none_iff_forall_ne_some.mpr fun e he => ?_)
  obtain ⟨-, -, hfind⟩ := issuable_eq_some.mp he
  rw [h] at hfind
  cases hfind

theorem cancelTrigger_of_not_await (h : s.mux.port ≠ .await) (p : PortId) : cancelTrigger p s = s := by
  have hnone : drainedInAwait s = none :=
    Option.eq_none_iff_forall_ne_some.mpr fun m hm => h (drainedInAwait_eq_some.mp hm).1
  simp [cancelTrigger, hnone]

theorem Settled.evaluate (h : Settled s) (hjoining : s.ctl.state = .joining) (c : ClassId) : evaluate c s = s := by
  cases hev : evaluates s c with
  | false => exact evaluate_of_not_evaluates hev
  | true =>
    have hbest : bestPort s (s.classes.get c) = none :=
      bestPort_eq_none_iff.mpr fun p _ => portTier_of_unusable_state (h.ports p).1 (h.ports p).2
    have hset : s.classes.set c { s.classes.get c with status := (s.classes.get c).status } = s.classes :=
      Eight.set_get s.classes c
    have hqueue : removeEntry c s.mux.queue = s.mux.queue := by rw [h.queue]; rfl
    rw [evaluate_stranded_joining hev hjoining (decideMove_stranded hbest), evaluatedTo, hset, hqueue]

theorem Settled.evaluateAll (h : Settled s) (hjoining : s.ctl.state = .joining) : evaluateAll s = s :=
  evaluateAll_keeps s (fun t => t = s) (fun c t ht => by rw [ht, h.evaluate hjoining]) rfl

theorem Settled.inProbation (h : Settled s) (p : PortId) : Settled (inProbation p s) where
  queue := h.queue
  port := h.port
  ports q := by
    by_cases hq : q = p
    · subst hq
      simp [inProbation_state]
    · simpa [Machine.inProbation, Four.get_set, hq] using h.ports q

theorem Settled.enterProbation (h : Settled s) (hjoining : s.ctl.state = .joining) (p : PortId) :
    enterProbation p s = rederive (Machine.inProbation p s) := by
  have hentered := h.inProbation p
  have hrederived : Settled (rederive (Machine.inProbation p s)) :=
    ⟨by simpa using hentered.queue, by simpa using hentered.port, by simpa using hentered.ports⟩
  have hstate : (rederive (Machine.inProbation p s)).ctl.state = .joining := by simpa [Machine.inProbation] using hjoining
  rw [enterProbation_eq, cancelTrigger_of_not_await hrederived.port, hrederived.evaluateAll hstate,
    issueTest_of_no_entry hrederived.queue]

/-! ## The lane status reports (R17, R22) -/

/-- Whether the lane status report of port `p` takes it to PROBATION. -/
def reports (s : State) (p : PortId) : Bool := (s.lanes.get p).present && probationReady s p

/-- The record of port `p` after its lane status report. -/
def reportedPort (s : State) (p : PortId) : PortRecord :=
  if reports s p then { s.ports.get p with state := .probation, cleanEpochs := 0 } else s.ports.get p

/-- The lane of port `p` after its lane status report. -/
def reportedLane (s : State) (p : PortId) : Lane :=
  if reports s p then
    { s.lanes.get p with
      helloTimer := if (s.lanes.get p).supervised then helloTimerFrom s else (s.lanes.get p).helloTimer }
  else s.lanes.get p

/-- `t` is `s` after the lane status reports of the ports `done`. -/
structure Reported (done : PortId → Prop) (s t : State) : Prop where
  frame : t = { s with
    lanes := t.lanes, ports := t.ports, opinions := t.opinions, bus := t.bus, verdicts := t.verdicts }
  finished : ∀ p, done p → t.lanes.get p = reportedLane s p ∧ t.ports.get p = reportedPort s p
  open_ : ∀ p, ¬ done p → t.lanes.get p = s.lanes.get p ∧ t.ports.get p = s.ports.get p
  derived : deriveOpinions t = deriveOpinions s
  same : deriveOpinions s = s.opinions → t.opinions = s.opinions ∧ t.bus = s.bus ∧ t.verdicts = s.verdicts
  bus : (healthCause s).bus = s.bus → t.bus = s.bus
  activity : s.verdicts.activity ≠ .idle → t.verdicts.activity ≠ .idle

theorem reported_refl (s : State) : Reported (fun _ => False) s s :=
  ⟨rfl, fun _ h => h.elim, fun _ _ => ⟨rfl, rfl⟩, rfl, fun _ => ⟨rfl, rfl, rfl⟩, fun _ => rfl, fun h => h⟩

section Report

variable {done : PortId → Prop} (h : Reported done s t)
include h

theorem Reported.ctl : t.ctl = s.ctl := by rw [h.frame]

theorem Reported.settled (hs : Settled s) : Settled t where
  queue := by rw [h.frame]; exact hs.queue
  port := by rw [h.frame]; exact hs.port
  ports p := by
    by_cases hp : done p
    · rw [(h.finished p hp).2, reportedPort]
      split
      · simp
      · exact hs.ports p
    · rw [(h.open_ p hp).2]
      exact hs.ports p

theorem Reported.reports (hp : ¬ done p) : reports t p = reports s p := by
  obtain ⟨hlane, hport⟩ := h.open_ p hp
  simp only [Machine.reports, probationReady, hlane, hport, steers_of_ctl h.ctl]

/-- One more lane status report. -/
theorem Reported.report (hs : Settled s) (hjoining : s.ctl.state = .joining) (hp : ¬ done p) :
    Reported (fun q => done q ∨ q = p) s (if (t.lanes.get p).present then probationCheck p t else t) := by
  obtain ⟨hlane, hport⟩ := h.open_ p hp
  have hreports := h.reports hp
  have hstate : t.ctl.state = .joining := by rw [h.ctl, hjoining]
  cases hready : Machine.reports s p with
  | false =>
    have hsame : (if (t.lanes.get p).present then probationCheck p t else t) = t := by
      split
      next hpresent =>
        refine probationCheck_of_not_ready fun hcheck => ?_
        rw [hready, Machine.reports, hpresent, hcheck] at hreports
        cases hreports
      next => rfl
    rw [hsame]
    refine { h with finished := fun q hq => ?_, open_ := fun q hq => h.open_ q fun hd => hq (.inl hd) }
    rcases hq with hq | hq
    · exact h.finished q hq
    · subst hq
      rw [hlane, hport, reportedLane, reportedPort, hready]
      exact ⟨rfl, rfl⟩
  | true =>
    obtain ⟨hpresent, hcheck⟩ := Bool.and_eq_true_iff.mp (hreports.trans hready)
    obtain ⟨-, hdown, -⟩ := probationReady_iff.mp hcheck
    rw [if_pos hpresent, probationCheck_of_ready hcheck, (h.settled hs).enterProbation hstate]
    have hderived : deriveOpinions (inProbation p t) = deriveOpinions s :=
      (deriveOpinions_inProbation hdown).trans h.derived
    have hlanes (q : PortId) : (rederive (inProbation p t)).lanes.get q =
        if q = p then
          { t.lanes.get p with
            helloTimer := if (t.lanes.get p).supervised then helloTimerFrom t else (t.lanes.get p).helloTimer }
        else t.lanes.get q := by
      rw [rederive_lanes]
      exact Four.get_set _ _ _ _
    have hports (q : PortId) : (rederive (inProbation p t)).ports.get q =
        if q = p then { t.ports.get p with state := .probation, cleanEpochs := 0 } else t.ports.get q := by
      rw [rederive_ports]
      exact Four.get_set _ _ _ _
    have hhello : helloTimerFrom t = helloTimerFrom s := by
      simp only [helloTimerFrom, now_of_ctl h.ctl, settings_of_ctl h.ctl]
    constructor
    · rw [rederive_eq]
      have hframe := h.frame
      simp only [inProbation, State.setLane, State.setPort]
      rw [hframe]
    · intro q hq
      rw [hlanes, hports]
      by_cases hqp : q = p
      · subst hqp
        simp only [if_pos, reportedLane, reportedPort, hready, hlane, hport, hhello, and_self]
      · simp only [if_neg hqp]
        exact h.finished q (hq.resolve_right hqp)
    · intro q hq
      obtain ⟨hnot, hqp⟩ := not_or.mp hq
      rw [hlanes, hports, if_neg hqp, if_neg hqp]
      exact h.open_ q hnot
    · rw [← hderived]
      exact deriveOpinions_congr (by simp) (by simp)
    · intro hsame
      obtain ⟨hopinions, hbus, hverdicts⟩ := h.same hsame
      have hkept : deriveOpinions (inProbation p t) = (inProbation p t).opinions :=
        hderived.trans (hsame.trans hopinions.symm)
      rw [rederive_of_same hkept]
      exact ⟨hopinions, hbus, hverdicts⟩
    · intro hcause
      have hbus := h.bus hcause
      have hagain : (healthCause (inProbation p t)).bus = (inProbation p t).bus :=
        (healthCause_bus_congr (s := s) (t := inProbation p t) hbus h.ctl).trans (hcause.trans hbus.symm)
      exact (rederive_bus hagain).trans hbus
    · intro hactivity
      exact rederive_activity (s := inProbation p t) (h.activity hactivity)

end Report

theorem reported_foldl (hs : Settled s) (hjoining : s.ctl.state = .joining) (l : List PortId) (hl : l.Nodup)
    {done : PortId → Prop} (h : Reported done s t) (hnot : ∀ p ∈ l, ¬ done p) :
    Reported (fun p => done p ∨ p ∈ l) s
      (l.foldl (fun t p => if (t.lanes.get p).present then probationCheck p t else t) t) := by
  induction l generalizing t done with
  | nil => simpa using h
  | cons p l ih =>
    obtain ⟨hp, hl⟩ := List.nodup_cons.mp hl
    have hnext := ih hl (h.report hs hjoining (hnot p List.mem_cons_self)) fun q hq => not_or.mpr
      ⟨hnot q (List.mem_cons_of_mem p hq), fun hqp => hp (hqp ▸ hq)⟩
    simpa [or_assoc] using hnext

/-- The lane status reports of a station with nothing to steer. -/
theorem reported_laneStatusReports (hs : Settled s) (hjoining : s.ctl.state = .joining) :
    Reported (fun _ => True) s (laneStatusReports s) := by
  have h := reported_foldl hs hjoining allPorts (by decide) (reported_refl s) fun _ _ h => h
  simpa [laneStatusReports] using h

/-- Where the own opinions are derived already, the lane status reports change lanes and port records alone. -/
theorem laneStatusReports_of_derived (hs : Settled s) (hjoining : s.ctl.state = .joining)
    (hderived : deriveOpinions s = s.opinions) :
    laneStatusReports s =
      { s with lanes := Four.build (reportedLane s), ports := Four.build (reportedPort s) } := by
  have h := reported_laneStatusReports hs hjoining
  obtain ⟨hopinions, hbus, hverdicts⟩ := h.same hderived
  have hlanes : (laneStatusReports s).lanes = Four.build (reportedLane s) :=
    Four.eq_of_get fun p => by rw [(h.finished p trivial).1, Four.get_build]
  have hports : (laneStatusReports s).ports = Four.build (reportedPort s) :=
    Four.eq_of_get fun p => by rw [(h.finished p trivial).2, Four.get_build]
  rw [h.frame, hopinions, hbus, hverdicts, hlanes, hports]

/-! ## Entry to JOINING with nothing to steer (R77, R153) -/

/-- The station `s` in JOINING, with the beacon timer started unless it is silenced. -/
def begun (s : State) : State := if s.ctl.silenced then joined s else startBeacon (joined s)

theorem enterJoining_of_no_entry (h : s.mux.queue = []) : enterJoining s = healthCause (begun s) := by
  rw [enterJoining_eq]
  refine issueTest_of_no_entry ?_
  split <;> simpa [joined] using h

/-- What the entry to JOINING leaves before the state cause: the station and the beacon timer are written alone. -/
theorem begun_eq (s : State) : begun s =
    { s with
      ctl :=
        { s.ctl with state := .joining, joinTime := .running (afterMs s ((settings s).joinTime * 100)) }
      beacon := if s.ctl.silenced then s.beacon else .running (afterMs s ((settings s).beacon * 10)) } := by
  unfold begun
  cases hsilenced : s.ctl.silenced <;> rfl

theorem settled_begun (h : Settled s) : Settled (begun s) := by
  rw [begun_eq]
  exact ⟨h.queue, h.port, h.ports⟩

theorem healthGate_begun (s : State) : healthGate (begun s) = !s.ctl.silenced := by
  rw [begun_eq]
  rfl

/-- The state that a configuration reaches before its lane status reports. -/
def configuredState (c : Settings) (s : State) : State := rederive (healthCause (begun (applySettings c s)))

/-- Configuration of a station with nothing to steer. -/
theorem configure_of_settled {c : Settings} (h : Settled (applySettings c s)) :
    configure c s =
      { configuredState c s with
        lanes := Four.build (reportedLane (configuredState c s))
        ports := Four.build (reportedPort (configuredState c s)) } := by
  have hbegun := settled_begun h
  have hsettled : Settled (configuredState c s) :=
    ⟨by simpa [configuredState] using hbegun.queue, by simpa [configuredState] using hbegun.port,
      by simpa [configuredState] using hbegun.ports⟩
  rw [configure, enterJoining_of_no_entry h.queue]
  refine laneStatusReports_of_derived hsettled (by simp [begun_eq]) ?_
  rw [rederive_opinions]
  exact deriveOpinions_congr (by simp) (by simp)

end Sys2Proof.Machine
end

section
/-! PROOFS. What a configuration leaves in UNCONFIGURED, by a CONFIG (R151) and by the defaults (R148, R152). -/

namespace Sys2Proof.Machine

open Safety

variable {s t : State} {p : PortId} {c : Settings}

/-- What configuration `c` leaves of the state `s`. -/
structure Configured (c : Settings) (s t : State) : Prop where
  ctl : t.ctl =
    { s.ctl with
      config := some c, state := .joining, configWait := .stopped, joinTime := .running (afterMs s (c.joinTime * 100)) }
  port_absent : ∀ p, (c.portMap.get p).absent = true → t.ports.get p = absentPort
  port_present : ∀ p, (c.portMap.get p).absent = false → t.ports.get p =
    { s.ports.get p with
      state := reportedState (s.lanes.get p) (c.portMap.get p).supervised
      cleanEpochs := (t.ports.get p).cleanEpochs }
  lane : ∀ p, t.lanes.get p =
    { (s.lanes.get p).configured (c.portMap.get p) with
      helloTimer := if (t.ports.get p).state = .probation ∧ (c.portMap.get p).supervised = true then
          .running (countedMs s (c.helloLimit * 10))
        else ((s.lanes.get p).configured (c.portMap.get p)).helloTimer }
  classes : ∀ k, t.classes.get k = configuredClass (c.lists.get k)
  opinions : ∀ sw, t.opinions.get sw = if mappedPorts (some c) sw = [] then .none else .lost
  beacon : t.beacon = if s.ctl.silenced then s.beacon else .running (afterMs s (c.beacon * 10))
  bus : t.bus = (healthCause (begun (applySettings c s))).bus
  verdicts_kept : t.opinions = s.opinions → t.verdicts = s.verdicts
  verdicts_asked : t.opinions ≠ s.opinions → RecomputeRequested s t
  kept : t.mux = s.mux ∧ t.epoch = s.epoch ∧ t.view = s.view

theorem applySettings_port (c : Settings) (s : State) (p : PortId) :
    (applySettings c s).ports.get p = (s.ports.get p).configured (c.portMap.get p) :=
  Four.get_build _ _

theorem applySettings_lane (c : Settings) (s : State) (p : PortId) :
    (applySettings c s).lanes.get p = (s.lanes.get p).configured (c.portMap.get p) :=
  Four.get_build _ _

theorem portConfigured_absent {r : PortRecord} {m : PortMap} (h : m.absent = true) : r.configured m = absentPort := if_pos h

theorem portConfigured_present {r : PortRecord} {m : PortMap} (h : m.absent = false) : r.configured m = r := by
  simp [PortRecord.configured, h]

theorem laneConfigured_present {l : Lane} {m : PortMap} (h : m.absent = false) :
    l.configured m = { l with supervised := m.supervised, helloSeen := m.supervised && l.helloSeen } := by
  simp [Lane.configured, h]

/-- The state of a port as configuration takes effect, before its lane status report. -/
theorem applySettings_port_state (hdown : ∀ p, (s.ports.get p).state = .down) (p : PortId) :
    ((applySettings c s).ports.get p).state = if (c.portMap.get p).absent then .absent else .down := by
  rw [applySettings_port]
  cases habsent : (c.portMap.get p).absent with
  | true => rw [portConfigured_absent habsent]; rfl
  | false => rw [portConfigured_present habsent, hdown]; rfl

theorem reportedState_down {l : Lane} {supervised : Bool} (h : reportedState l supervised ≠ .probation) :
    reportedState l supervised = .down := by
  unfold reportedState at h ⊢
  split at h
  · exact absurd rfl h
  next hno => exact if_neg hno

/-- An UNCONFIGURED station has no move queued or outstanding, and every port DOWN. -/
structure Blank (s : State) : Prop where
  queue : s.mux.queue = []
  port : s.mux.port = .ready ∨ s.mux.port = .offline
  down : ∀ p, (s.ports.get p).state = .down

theorem blank_of_unconfigured (hstate : s.ctl.state = .unconfigured) (hports : PortsLaw s) (hsteer : SteerLaw s) :
    Blank s := by
  obtain ⟨hqueue, -, hport⟩ := quiet_of_unconfigured hsteer hstate
  exact ⟨hqueue, hport, hports.unconfigured (hports.store.1 hstate)⟩

theorem settled_applySettings (h : Blank s) : Settled (applySettings c s) := by
  obtain ⟨hqueue, hport, hdown⟩ := h
  refine ⟨hqueue, fun h => ?_, fun p => ?_⟩
  · have hawait : s.mux.port = .await := h
    rw [hawait] at hport
    rcases hport with hport | hport <;> cases hport
  · rw [applySettings_port_state hdown]
    cases (c.portMap.get p).absent <;> exact ⟨nofun, nofun⟩

/-- Which ports the lane status reports of a configuration take to PROBATION. -/
theorem reports_configuredState (hdown : ∀ p, (s.ports.get p).state = .down) (p : PortId) :
    reports (configuredState c s) p = true ↔
      (c.portMap.get p).absent = false ∧ reportedState (s.lanes.get p) (c.portMap.get p).supervised = .probation := by
  have hlanes : (configuredState c s).lanes = (applySettings c s).lanes := by simp [configuredState, begun_eq]
  have hports : (configuredState c s).ports = (applySettings c s).ports := by simp [configuredState, begun_eq]
  have hsteers : steers (configuredState c s) = true := by simp [configuredState, begun_eq, steers]
  rw [reports, Bool.and_eq_true, probationReady_iff, hlanes, hports, applySettings_port_state hdown, applySettings_lane]
  cases habsent : (c.portMap.get p).absent <;> cases hsup : (c.portMap.get p).supervised <;>
    simp [Lane.configured, reportedState, hsteers, habsent, hsup]

theorem opinion_applySettings (hdown : ∀ p, (s.ports.get p).state = .down) (sw : SwitchId) :
    (deriveOpinions (applySettings c s)).get sw = if mappedPorts (some c) sw = [] then .none else .lost := by
  rw [deriveOpinions, Eight.get_build]
  change opinionOf ((mappedPorts (some c) sw).map fun p => ((applySettings c s).ports.get p).state) = _
  split
  next hnil => rw [hnil]; rfl
  next hsome =>
    refine opinionOf_lost (by simpa using hsome) fun x hx => .inl ?_
    obtain ⟨p, hp, rfl⟩ := List.mem_map.mp hx
    obtain ⟨g, hg, hpresent, -⟩ := mem_mappedPorts.mp hp
    cases hg
    rw [applySettings_port_state hdown, hpresent]
    rfl

theorem configured_configure (h : Blank s) : Configured c s (configure c s) := by
  have hdown := h.down
  have heq := configure_of_settled (settled_applySettings (c := c) h)
  have hctl : (configuredState c s).ctl = (begun (applySettings c s)).ctl := by simp [configuredState]
  have hlanes : (configuredState c s).lanes = (applySettings c s).lanes := by simp [configuredState, begun_eq]
  have hrecords : (configuredState c s).ports = (applySettings c s).ports := by simp [configuredState, begun_eq]
  have hderived : deriveOpinions (healthCause (begun (applySettings c s))) = deriveOpinions (applySettings c s) :=
    deriveOpinions_congr (by simp [begun_eq]) (by simp [begun_eq])
  have hopinions : (configuredState c s).opinions = deriveOpinions (applySettings c s) := by
    rw [configuredState, rederive_opinions, hderived]
  have hbefore : (healthCause (begun (applySettings c s))).opinions = s.opinions := by simp [begun_eq, applySettings]
  have hverdicts : (healthCause (begun (applySettings c s))).verdicts = s.verdicts := by simp [begun_eq, applySettings]
  have hhello : helloTimerFrom (configuredState c s) = .running (countedMs s (c.helloLimit * 10)) := by
    simp only [helloTimerFrom, now_of_ctl hctl, settings_of_ctl hctl]
    rw [begun_eq]
    exact startCounted_now s _
  have hport (p : PortId) : (configure c s).ports.get p = reportedPort (configuredState c s) p := by
    rw [heq]; exact Four.get_build _ _
  have hlane (p : PortId) : (configure c s).lanes.get p = reportedLane (configuredState c s) p := by
    rw [heq]; exact Four.get_build _ _
  have hreports := reports_configuredState (c := c) hdown
  have habsent (p : PortId) (h : (c.portMap.get p).absent = true) : (configure c s).ports.get p = absentPort := by
    have hno : reports (configuredState c s) p = false := by
      rw [← Bool.not_eq_true, hreports, h]
      simp
    rw [hport, reportedPort, hno, hrecords, applySettings_port, portConfigured_absent h]
    rfl
  have hpresent (p : PortId) (h : (c.portMap.get p).absent = false) : (configure c s).ports.get p =
      { s.ports.get p with
        state := reportedState (s.lanes.get p) (c.portMap.get p).supervised
        cleanEpochs := ((configure c s).ports.get p).cleanEpochs } := by
    rw [hport, reportedPort, hrecords, applySettings_port, portConfigured_present h]
    by_cases hr : reports (configuredState c s) p = true
    · rw [if_pos hr, ((hreports p).mp hr).2]
    · have hstays := reportedState_down fun hr' => hr ((hreports p).mpr ⟨h, hr'⟩)
      rw [if_neg hr, hstays, ← hdown p]
  constructor
  case ctl => rw [heq, hctl, begun_eq]; rfl
  case port_absent => exact habsent
  case port_present => exact hpresent
  case lane =>
    intro p
    have hprobation : ((configure c s).ports.get p).state = .probation ↔ reports (configuredState c s) p = true := by
      rw [hreports]
      cases h : (c.portMap.get p).absent with
      | true => rw [habsent p h]; simp [absentPort]
      | false => rw [hpresent p h]; simp
    simp only [hprobation]
    rw [hlane, reportedLane, hlanes, applySettings_lane, hhello]
    by_cases hr : reports (configuredState c s) p = true
    · have hsup : ((s.lanes.get p).configured (c.portMap.get p)).supervised = (c.portMap.get p).supervised := by
        simp [Lane.configured, ((hreports p).mp hr).1]
      simp only [hr, if_pos, hsup, true_and]
    · simp only [hr, false_and, if_false, Bool.false_eq_true]
  case classes => intro k; rw [heq]; simp [configuredState, begun_eq, applySettings]
  case opinions =>
    intro sw
    rw [heq]
    simp only [hopinions]
    exact opinion_applySettings hdown sw
  case beacon => rw [heq]; simp [configuredState, begun_eq]; rfl
  case bus =>
    rw [heq]
    exact rederive_bus (by rw [healthCause_twice])
  case verdicts_kept =>
    rw [heq]
    simp only [hopinions]
    intro hsame
    rw [configuredState, rederive_of_same (by rw [hderived, hsame, hbefore]), hverdicts]
  case verdicts_asked =>
    rw [heq]
    simp only [hopinions]
    intro hchanged
    have hne : deriveOpinions (healthCause (begun (applySettings c s))) ≠
        (healthCause (begun (applySettings c s))).opinions := by rwa [hderived, hbefore]
    have hasked := recomputeRequested_requestRecompute
      (healthCause { healthCause (begun (applySettings c s)) with
        opinions := deriveOpinions (healthCause (begun (applySettings c s))) })
    rw [← rederive_of_changed hne] at hasked
    exact recomputeRequested_congr hasked (by rw [healthCause_verdicts]; exact hverdicts.symm) rfl rfl hopinions.symm rfl
  case kept => rw [heq]; simp [configuredState, begun_eq, applySettings]

end Sys2Proof.Machine
end

section
/-! PROOFS. The defaults in UNCONFIGURED (O54) and a CONFIG there (O30). -/

namespace Sys2Proof.Machine

open Safety

variable {s t : State} {p : PortId} {n : Notice} {c : Settings}

theorem blank_congr (h : Blank s) (hmux : t.mux = s.mux) (hports : t.ports = s.ports) : Blank t where
  queue := hmux ▸ h.queue
  port := hmux ▸ h.port
  down := hports ▸ h.down

theorem exec_configWaitExpiry {due : Instant} (hstate : s.ctl.state = .unconfigured)
    (hwait : s.ctl.configWait = .running due) (hdue : RanOut s due) :
    exec .configWaitExpiry s =
      .next (configure defaultSettings (s.setStation { s.ctl with defaulted := true })) := by
  have hguard : (decide (s.ctl.state = .unconfigured) && s.ctl.configWait.isDue (clock s)) = true := by
    rw [hwait, isDue_running.mpr hdue, hstate]
    rfl
  change execConfigWaitExpiry s = _
  rw [execConfigWaitExpiry, if_pos hguard]

theorem bus_begun (c : Settings) (s : State) : (begun (applySettings c s)).bus = s.bus := by
  rw [begun_eq]
  rfl

/-- The state cause on entry to JOINING is handled under the gate of R76, of which JOINING leaves the silencing. -/
theorem Configured.cause (h : Configured c s t) : CauseHandled (!s.ctl.silenced) s.bus t.bus := by
  have hcause := causeHandled_healthCause (begun (applySettings c s))
  rw [healthGate_begun, bus_begun] at hcause
  rw [h.bus]
  exact hcause

theorem healthCause_bus_of_not_sending (h : ∀ m, s.bus.activity ≠ .sending .health m) :
    (healthCause s).bus =
      { s.bus with
        queue := if healthGate s = true ∧ TxEntry.health ∉ s.bus.queue then s.bus.queue ++ [.health]
          else s.bus.queue } := by
  by_cases hqueue : TxEntry.health ∈ s.bus.queue
  · simp [healthCause_of_waiting h hqueue, hqueue]
  · cases hgate : healthGate s with
    | false => simp [healthCause_of_closed hgate]
    | true => simp [healthCause_of_none hgate h hqueue, hqueue, State.setBus]

/-- A station in its take slot for the CONFIG `n`, as it hands `n` over to the station controller. -/
def handingConfig (n : Notice) (s : State) : State :=
  { s with
    ctl := { s.ctl with configWait := .stopped }
    bus := { passed s.bus true with
      activity := .receiving (.closing n.header), slot := none, wires := (atHoldSlot n none s).bus.wires,
      quiet := (atHoldSlot n none s).bus.quiet, sinceEvent := (atHoldSlot n none s).bus.sinceEvent } }

theorem handOver_config (hkind : readKind n.header.kind = some .config) (hstate : s.ctl.state = .unconfigured) :
    handOver n s = configure (readConfig n.body) (s.setBus { s.bus with slot := none }) := by
  simp [handOver, hkind, hstate, State.setBus]

theorem followNotice_config (harr : Arrives s n .config) (hslot : s.bus.slot = none)
    (hstate : s.ctl.state = .unconfigured) (ho : noticeOutcome (atHoldSlot n none s) n = .taken) :
    followNotice n .whole s =
      seeWires n .whole (passStop n.header (configure (readConfig n.body) (handingConfig n s))) := by
  have hkind := readKind_of_form harr.form
  rw [followNotice_handed harr hslot ho, storeNotice, if_pos hkind, handOver_config hkind]
  · rfl
  · exact hstate

/-- The stop mark of a CONFIG that configured the station. -/
theorem passStop_configured {w u : State} (h : Configured c w u)
    (hactivity : w.bus.activity = .receiving (.closing n.header)) :
    seeWires n .whole (passStop n.header u) =
      { u with
        bus := { passed w.bus w.bus.takeDriven with
          queue := if w.ctl.silenced = false ∧ TxEntry.health ∉ w.bus.queue then w.bus.queue ++ [.health]
            else w.bus.queue } } := by
  have hbus := h.bus
  have hnot : ∀ m, (begun (applySettings c w)).bus.activity ≠ .sending .health m := by
    intro m
    rw [bus_begun, hactivity]
    nofun
  rw [healthCause_bus_of_not_sending hnot, bus_begun, healthGate_begun] at hbus
  have hidle : passStop n.header u = toIdle u := by
    have hclosing : u.bus.activity = .receiving (.closing n.header) := by rw [hbus]; exact hactivity
    simp [passStop, hclosing]
  rw [hidle, seeWires_of_idle .whole rfl, toIdle, State.setBus, hbus]
  simp only [applySettings, Bool.not_eq_true']
  rfl

end Sys2Proof.Machine

namespace Sys2Proof.Proofs

open Sys2Proof.Machine Sys2Proof.Safety

/-- Settles O54: CONFIG_WAIT_EXPIRY configures the station with the defaults. -/
theorem configWaitAppliesDefaults : Obligations.ConfigWaitAppliesDefaults := by
  intro s due hstate hwait hdue hports hsteer
  have hblank : Blank (s.setStation { s.ctl with defaulted := true }) :=
    blank_congr (blank_of_unconfigured hstate hports hsteer) rfl rfl
  obtain ⟨t, hexec, h⟩ : ∃ t, exec .configWaitExpiry s = .next t ∧
      Configured defaultSettings (s.setStation { s.ctl with defaulted := true }) t :=
    ⟨_, exec_configWaitExpiry hstate hwait hdue, configured_configure hblank⟩
  have hcause : CauseHandled (!s.ctl.silenced) s.bus t.bus := h.cause
  obtain ⟨hmux, hepoch, hview⟩ := h.kept
  have hmapped (p : PortId) : (defaultSettings.portMap.get p).absent = false ∧
      (defaultSettings.portMap.get p).supervised = true := by
    fin_cases p <;> decide
  refine ⟨t, hexec, h.ctl, fun p => ?_, fun p => ?_, fun k => ?_, fun sw => ?_,
    fun hsilenced => ⟨?_, ?_⟩, fun hsilenced => ⟨?_, ?_⟩, h.verdicts_kept, fun hne => ?_, hmux, hepoch, hview⟩
  · have hport := h.port_present p (hmapped p).1
    rw [(hmapped p).2] at hport
    exact hport
  · have hlane := h.lane p
    rw [laneConfigured_present (hmapped p).1, (hmapped p).2] at hlane
    simp only [Bool.true_and, and_true] at hlane
    exact hlane
  · rw [h.classes]
    have hlist : defaultSettings.lists.get k = [0, 1, 2, 3] := Eight.get_all _ k
    rw [hlist]
    exact ⟨rfl, rfl, rfl⟩
  · rw [h.opinions]
    fin_cases sw <;> decide
  · rw [h.beacon]
    simp [hsilenced]
  · rw [hsilenced] at hcause
    exact hcause.closed rfl
  · rw [h.beacon]
    simp [hsilenced]
    rfl
  · rw [hsilenced] at hcause
    exact hcause
  · exact recomputeRequested_congr (h.verdicts_asked hne) rfl rfl rfl rfl rfl

/-- Settles O30: a CONFIG that is taken in UNCONFIGURED is handed over, and its stop mark passes. -/
theorem configTakesEffect : Obligations.ConfigTakesEffect := by
  intro s n g harr hsender htarget hslot hstate hports hsteer hpass hg
  have hrel := (relevant_of_targeted s.ctl.id harr.form (.inr (.inl rfl))).mpr htarget
  have ho : noticeOutcome (atHoldSlot n none s) n = .taken := by
    simp [noticeOutcome_of_form harr.form harr.complete harr.check, atHoldSlot, hsender, hrel, acceptance,
      hstate, hpass, hslot]
  have hblank : Blank (handingConfig n s) := blank_congr (blank_of_unconfigured hstate hports hsteer) rfl rfl
  obtain ⟨u, hfollow, h⟩ : ∃ u, followNotice n .whole s = seeWires n .whole (passStop n.header u) ∧
      Configured g (handingConfig n s) u :=
    ⟨_, followNotice_config harr hslot hstate ho, hg ▸ configured_configure hblank⟩
  obtain ⟨hmux, hepoch, hview⟩ := h.kept
  rw [exec_noticeRow (.inr (.inl rfl)), hfollow, passStop_configured h rfl]
  refine ⟨_, rfl, h.ctl, fun p habsent => ⟨h.port_absent p habsent, ?_⟩, fun p hpresent => ?_, fun k => ?_, h.opinions,
    ?_, h.beacon, h.verdicts_kept, fun hne => ?_, hmux, hepoch, hview⟩
  · change u.lanes.get p = _
    rw [h.lane, h.port_absent p habsent]
    simp [Lane.configured, habsent, absentPort]
  · change (u.ports.get p).state = _ ∧ (u.ports.get p).cause = _ ∧ (u.ports.get p).score = _ ∧
      (u.lanes.get p).helloTimer = _ ∧ (u.lanes.get p).present = _ ∧ (u.lanes.get p).supervised = _ ∧
      (u.lanes.get p).level = _ ∧ (u.lanes.get p).errors = _ ∧ (u.lanes.get p).peak = _
    have hport := h.port_present p hpresent
    have hscore := (hports.ports p).score_waiting (.inl (hports.unconfigured (hports.store.1 hstate) p))
    rw [h.lane, laneConfigured_present hpresent]
    refine ⟨?_, ?_, ?_, rfl, rfl, rfl, rfl, rfl, rfl⟩ <;> rw [hport]
    · rfl
    · rfl
    · exact hscore
  · change (u.classes.get k).prefs = _ ∧ (u.classes.get k).current = _ ∧ (u.classes.get k).status = _
    rw [h.classes]
    simp [configuredClass]
  · simp only [handingConfig, passed, hslot]
  · exact recomputeRequested_congr (h.verdicts_asked hne) rfl rfl rfl rfl rfl

end Sys2Proof.Proofs
end

section
/-! PROOFS. The end of a warm reset (R157). -/

namespace Sys2Proof.Machine

open Safety

variable {s t : State} {p : PortId}

theorem warmResetOver_iff : warmResetOver s = true ↔ s.ctl.rstnHigh = true ∧ 100 ≤ s.ctl.resetQuiet := by
  rw [warmResetOver, Bool.and_eq_true, decide_eq_true_iff, resetQuietMicros]

theorem exec_warmResetEnd_early (h : s.ctl.rstnHigh = false ∨ s.ctl.resetQuiet < 100) :
    exec .warmResetEnd s = .next s := by
  have hnot : warmResetOver s = false := by
    rw [← Bool.not_eq_true, warmResetOver_iff]
    rintro ⟨hhigh, hquiet⟩
    rcases h with h | h
    · rw [hhigh] at h
      cases h
    · omega
  change execWarmResetEnd s = _
  rw [execWarmResetEnd, hnot, Bool.and_false]
  rfl

theorem exec_warmResetEnd (hstate : s.ctl.state = .resetting) (hover : warmResetOver s = true) :
    exec .warmResetEnd s = .next (endWarmReset s) := by
  change execWarmResetEnd s = _
  rw [execWarmResetEnd, hstate, hover]
  rfl

theorem settled_resetOver (hqueue : s.mux.queue = [])
    (hports : ∀ p, (s.ports.get p).state = .down ∨ (s.ports.get p).state = .absent) : Settled (resetOver s) where
  queue := hqueue
  port h := by
    have hcases := portFromMrdy_cases s.mux.mrdy
    rw [show portFromMrdy s.mux.mrdy = .await from h] at hcases
    rcases hcases with hcases | hcases <;> cases hcases
  ports p := by
    change (s.ports.get p).state ≠ _ ∧ (s.ports.get p).state ≠ _
    rcases hports p with h | h <;> rw [h] <;> exact ⟨nofun, nofun⟩

/-- The state that the end of a warm reset reaches in a configured station before the lane status reports. -/
def rejoined (s : State) : State := requestRecompute (healthCause (begun (resetOver s)))

theorem endWarmReset_configured (hconfig : s.ctl.config.isSome = true) (hqueue : s.mux.queue = []) :
    endWarmReset s = laneStatusReports (rejoined s) := by
  rw [endWarmReset_eq, if_pos hconfig, enterJoining_of_no_entry (s := resetOver s) hqueue, healthCause_twice]
  rfl

theorem endWarmReset_unconfigured (hconfig : s.ctl.config = none) :
    endWarmReset s = unjoined (resetOver s) := by
  rw [endWarmReset_eq, if_neg (by simp [hconfig])]
  exact laneStatusReports_of_not_steers rfl

theorem rejoined_eq (s : State) : rejoined s =
    { begun (resetOver s) with bus := (rejoined s).bus, verdicts := (rejoined s).verdicts } := by
  rw [rejoined, requestRecompute_eq_verdicts, healthCause_eq_bus]

theorem settled_rejoined (h : Settled (resetOver s)) : Settled (rejoined s) := by
  obtain ⟨hqueue, hport, hports⟩ := settled_begun h
  rw [rejoined_eq]
  exact ⟨hqueue, hport, hports⟩

/-- A lane status report of a DOWN port after a warm reset (R17, R22). -/
theorem reportedPort_of_down (hsteers : steers s = true) (hdown : (s.ports.get p).state = .down) :
    reportedPort s p =
      { s.ports.get p with
        state := reportedState (s.lanes.get p) (s.lanes.get p).supervised
        cleanEpochs := (reportedPort s p).cleanEpochs } := by
  have hreports : reports s p = true ↔ reportedState (s.lanes.get p) (s.lanes.get p).supervised = .probation := by
    rw [reports, Bool.and_eq_true, probationReady_iff]
    cases (s.lanes.get p).supervised <;> simp [hsteers, hdown, reportedState]
  unfold reportedPort
  by_cases hr : reports s p = true
  · rw [if_pos hr, hreports.mp hr]
  · rw [if_neg hr, reportedState_down (mt hreports.mpr hr), ← hdown]

theorem reportedPort_of_not_down (h : (s.ports.get p).state ≠ .down) : reportedPort s p = s.ports.get p := by
  refine if_neg fun hr => h ?_
  rw [reports, Bool.and_eq_true, probationReady_iff] at hr
  obtain ⟨-, -, hdown, -⟩ := hr
  exact hdown

end Sys2Proof.Machine

namespace Sys2Proof.Proofs

open Sys2Proof.Machine Sys2Proof.Safety

/-- Settles O57: a configured station enters JOINING with nothing to steer, an unconfigured one waits for a CONFIG. -/
theorem warmResetEnds : Obligations.WarmResetEnds := by
  intro s hstate
  refine ⟨exec_warmResetEnd_early, fun hhigh hquiet hqueue hsilenced hidle hports => ?_⟩
  have hsettled := settled_resetOver hqueue hports
  refine ⟨_, exec_warmResetEnd hstate (warmResetOver_iff.mpr ⟨hhigh, hquiet⟩), ?_⟩
  cases hconfig : s.ctl.config with
  | none =>
    rw [endWarmReset_unconfigured hconfig]
    refine ⟨rfl, rfl, rfl, hconfig, rfl, rfl, rfl, rfl, rfl, fun hsome => (nomatch hsome), fun _ =>
      ⟨rfl, ?_, rfl, rfl⟩⟩
    exact startTimer_clock s 2000
  | some g =>
    have hreported := reported_laneStatusReports (settled_rejoined hsettled) (by rw [rejoined_eq, begun_eq])
    have hderived : deriveOpinions (rejoined s) = deriveOpinions s :=
      deriveOpinions_congr (by rw [rejoined_eq, begun_eq]; rfl) (by rw [rejoined_eq, begun_eq]; rfl)
    have hopinions : (rejoined s).opinions = s.opinions := by rw [rejoined_eq, begun_eq]; rfl
    have hbus : (rejoined s).bus =
        { s.bus with
          sinceEvent := 0
          queue := if TxEntry.health ∈ s.bus.queue then s.bus.queue else s.bus.queue ++ [.health] } := by
      have hbegun : (begun (resetOver s)).bus = (resetOver s).bus := by rw [begun_eq]
      have hgate : healthGate (begun (resetOver s)) = true := by
        rw [healthGate_begun]
        exact congrArg not hsilenced
      have hnot : ∀ m, (begun (resetOver s)).bus.activity ≠ .sending .health m := by
        intro m
        rw [hbegun, show (resetOver s).bus.activity = .idle from hidle]
        nofun
      rw [rejoined, requestRecompute_bus, healthCause_bus_of_not_sending hnot, hbegun, hgate]
      by_cases hhealth : TxEntry.health ∈ s.bus.queue <;> simp [resetOver, hhealth]
    have hdue : (healthCause (rejoined s)).bus = (rejoined s).bus := by
      have hbefore : (rejoined s).bus = (healthCause (begun (resetOver s))).bus := requestRecompute_bus _
      have hctl : (rejoined s).ctl = (healthCause (begun (resetOver s))).ctl := by simp [rejoined]
      rw [healthCause_bus_congr hbefore hctl, healthCause_again, hbefore]
    obtain ⟨t, ht⟩ : ∃ t, t = laneStatusReports (rejoined s) := ⟨_, rfl⟩
    rw [endWarmReset_configured (by simp [hconfig]) hqueue, ← ht]
    rw [← ht] at hreported
    have hframe := hreported.frame
    rw [rejoined_eq, begun_eq] at hframe
    have hbus' := (hreported.bus hdue).trans hbus
    have hctl : t.ctl = (begun (resetOver s)).ctl := by rw [hreported.ctl, rejoined_eq]
    rw [begun_eq] at hctl
    have hlanes : (rejoined s).lanes = s.lanes := by rw [rejoined_eq, begun_eq]; rfl
    have hrecords : (rejoined s).ports = s.ports := by rw [rejoined_eq, begun_eq]; rfl
    have hsteers : steers (rejoined s) = true := by rw [rejoined_eq, begun_eq]; rfl
    refine ⟨?_, ?_, ?_, ?_, ?_, ?_, ?_, ?_, ?_, fun _ => ⟨?_, ?_, ?_, ?_, ?_, fun hsame => ?_, fun p hdown => ?_,
      fun p habsent => ?_⟩, fun hnone => (nomatch hnone)⟩
    · rw [hframe]; rfl
    · rw [hframe]; rfl
    · rw [hbus']
    · rw [hctl]; exact hconfig
    · rw [hctl]; rfl
    · rw [hctl]; rfl
    · rw [hctl]; rfl
    · rw [hframe]; rfl
    · rw [hframe]; rfl
    · rw [hctl]
    · rw [hctl]; rfl
    · rw [hframe]
      simp [resetOver, hsilenced]
      rfl
    · rw [hbus']
    · exact hreported.activity (requestRecompute_activity _)
    · obtain ⟨hopinions', -, hverdicts⟩ := hreported.same (by rw [hderived, hopinions, hsame])
      exact recomputeRequested_congr (recomputeRequested_requestRecompute (healthCause (begun (resetOver s))))
        (by rw [healthCause_verdicts, begun_eq]; rfl) hverdicts (by rw [hreported.ctl]; rfl) hopinions'
        (by rw [hreported.frame]; rfl)
    · rw [(hreported.finished p trivial).2,
        reportedPort_of_down hsteers (by rw [hrecords]; exact hdown), hlanes, hrecords]
    · rw [(hreported.finished p trivial).2, reportedPort_of_not_down (by rw [hrecords, habsent]; nofun), hrecords]

end Sys2Proof.Proofs
end

section
/-! PROOFS. The end of the joining window, by its timer and by an epoch end (R79, R153). -/

namespace Sys2Proof.Machine

open Safety

variable {s t b : State} {p q : PortId}

/-! ## A HEALTH that is due (R55) -/

/-- A HEALTH waits in the queue, or joins it at the end of the one being sent. -/
def HealthDue (s : State) : Prop := s.bus.dueMark = true ∨ TxEntry.health ∈ s.bus.queue

theorem healthDue_of_bus (h : HealthDue s) (hbus : t.bus = s.bus) : HealthDue t := by
  rwa [HealthDue, hbus]

theorem healthDue_of_cause (hgate : healthGate s = true) : HealthDue (healthCause s) := by
  have hcause := causeHandled_healthCause s
  rw [hgate] at hcause
  by_cases hsending : ∃ n, s.bus.activity = .sending .health n
  · exact .inl (by rw [hcause.marked rfl hsending])
  · by_cases hqueue : TxEntry.health ∈ s.bus.queue
    · exact .inr (by rwa [hcause.waiting rfl (not_exists.mp hsending) hqueue])
    · exact .inr (by rw [hcause.joined rfl (not_exists.mp hsending) hqueue]; simp)

theorem HealthDue.healthCause (h : HealthDue s) : HealthDue (healthCause s) := by
  cases hgate : healthGate s with
  | true => exact healthDue_of_cause hgate
  | false => rwa [healthCause_of_closed hgate]

theorem HealthDue.rederive (h : HealthDue s) : HealthDue (rederive s) := by
  by_cases hsame : deriveOpinions s = s.opinions
  · rwa [rederive_of_same hsame]
  · rw [rederive_of_changed hsame]
    refine healthDue_of_bus ?_ (requestRecompute_bus _)
    exact HealthDue.healthCause (s := { s with opinions := deriveOpinions s }) h

/-! ## The port test of the joining window (R153) -/

theorem enterActive_bus (s : State) : (enterActive s).bus =
    (healthCause (s.setStation { s.ctl with state := .active, joinTime := .stopped })).bus :=
  (evaluated_onlySteers _).bus

theorem healthDue_enterActive (hsilenced : s.ctl.silenced = false) : HealthDue (enterActive s) := by
  refine healthDue_of_bus (healthDue_of_cause ?_) (enterActive_bus s)
  simp [healthGate, steers, hsilenced]

theorem HealthDue.enterActive (h : HealthDue s) : HealthDue (enterActive s) :=
  healthDue_of_bus
    (HealthDue.healthCause (s := s.setStation { s.ctl with state := .active, joinTime := .stopped }) h)
    (enterActive_bus s)

theorem joiningTest_outcome (s : State) :
    (joiningTest s = s ∧ (s.ctl.state = .joining → allPortsUp s = false)) ∨
    (s.ctl.state = .joining ∧ joiningTest s = enterActive s) := by
  unfold joiningTest
  by_cases hstate : s.ctl.state = .joining
  · cases hup : allPortsUp s with
    | false => exact .inl ⟨if_neg (by simp), fun _ => rfl⟩
    | true => exact .inr ⟨hstate, if_pos (by simp [hstate])⟩
  · exact .inl ⟨if_neg (by simp [hstate]), fun h => absurd h hstate⟩

/-- The window is open and some port was not up at the last change of a port state, or it has ended. -/
def Window (b s : State) : Prop :=
  (s.ctl = b.ctl ∧ ((∃ p, (s.ports.get p).state ≠ (b.ports.get p).state) → allPortsUp s = false)) ∨
  (s.ctl = { b.ctl with state := .active, joinTime := .stopped } ∧ (b.ctl.silenced = false → HealthDue s))

theorem allPortsUp_congr (h : ∀ p, (t.ports.get p).state = (s.ports.get p).state) : allPortsUp t = allPortsUp s := by
  simp only [allPortsUp, h]

theorem Window.setPort (h : Window b s) {r : PortRecord} (hr : r.state = (s.ports.get p).state) :
    Window b (s.setPort p r) := by
  have hstates : ∀ q, ((s.setPort p r).ports.get q).state = (s.ports.get q).state := fun q => by
    by_cases hq : q = p <;> simp [Four.get_set, hq, hr]
  rcases h with ⟨hctl, hopen⟩ | ⟨hctl, hdue⟩
  · refine .inl ⟨hctl, fun ⟨q, hq⟩ => ?_⟩
    rw [allPortsUp_congr hstates]
    exact hopen ⟨q, by rwa [← hstates q]⟩
  · exact .inr ⟨hctl, hdue⟩

theorem Window.portChanged (hjoining : b.ctl.state = .joining) (h : Window b s) (p : PortId) (lanes : Four Lane)
    (ports : Four PortRecord) : Window b (portChanged p { s with lanes := lanes, ports := ports }) := by
  obtain ⟨u, hu⟩ : ∃ u, u = issueTest (evaluateAll (cancelTrigger p
      (rederive { s with lanes := lanes, ports := ports }))) := ⟨_, rfl⟩
  have hchanged : Machine.portChanged p { s with lanes := lanes, ports := ports } = joiningTest u := by
    rw [hu]; rfl
  have hctl : u.ctl = s.ctl := by rw [hu]; simp
  rw [hchanged]
  rcases h with ⟨hbase, -⟩ | ⟨hactive, hdue⟩
  · rcases joiningTest_outcome u with ⟨h, hup⟩ | ⟨-, h⟩ <;> rw [h]
    · exact .inl ⟨hctl.trans hbase, fun _ => hup (by rw [hctl, hbase, hjoining])⟩
    · refine .inr ⟨by rw [enterActive_ctl, hctl, hbase], fun hsilenced => healthDue_enterActive ?_⟩
      rwa [hctl, hbase]
  · have hstate : u.ctl.state ≠ .joining := by rw [hctl, hactive]; simp
    rcases joiningTest_outcome u with ⟨h, -⟩ | ⟨hjoin, -⟩
    · rw [h]
      refine .inr ⟨hctl.trans hactive, fun hsilenced => ?_⟩
      have hrederived : HealthDue (rederive { s with lanes := lanes, ports := ports }) :=
        HealthDue.rederive (hdue hsilenced)
      exact healthDue_of_bus hrederived (by rw [hu]; simp)
    · exact absurd hjoin hstate

theorem Window.deliver (hjoining : b.ctl.state = .joining) (h : Window b s) (before : Four Lane) (p : PortId) :
    Window b (deliverResult before s p) := by
  unfold deliverResult
  split
  · rcases deliverEpoch_outcome p (before.get p).errors s with ⟨hstate, hset⟩ | ⟨-, hchanged⟩
    · rw [hset]
      exact h.setPort hstate
    · rw [hchanged]
      exact h.portChanged hjoining p _ _
  · exact h

theorem window_endEpoch (hjoining : s.ctl.state = .joining) : Window s (endEpoch s) :=
  List.foldlRecOn (motive := Window s) allPorts (deliverResult s.lanes) (.inl ⟨rfl, fun ⟨_, hp⟩ => absurd rfl hp⟩)
    fun _ h p _ => h.deliver hjoining s.lanes p

/-! ## JOIN_TIME_EXPIRY -/

theorem exec_joinTimeExpiry_early {due : Instant} (hjoin : s.ctl.joinTime = .running due) (hdue : ¬ RanOut s due) :
    exec .joinTimeExpiry s = .next s := by
  have hnot : s.ctl.joinTime.isDue (clock s) = false := hjoin ▸ isDue_of_not_ranOut hdue
  change execJoinTimeExpiry s = _
  rw [execJoinTimeExpiry, hnot, Bool.and_false]
  rfl

theorem exec_joinTimeExpiry {due : Instant} (hstate : s.ctl.state = .joining) (hjoin : s.ctl.joinTime = .running due)
    (hdue : RanOut s due) : exec .joinTimeExpiry s = .next (enterActive s) := by
  have hran : s.ctl.joinTime.isDue (clock s) = true := hjoin ▸ isDue_running.mpr hdue
  change execJoinTimeExpiry s = _
  rw [execJoinTimeExpiry, hran, hstate]
  rfl

/-- The station `s` in ACTIVE, before a HEALTH is due and the classes are evaluated. -/
def opened (s : State) : State := s.setStation { s.ctl with state := .active, joinTime := .stopped }

theorem healthGate_opened (s : State) : healthGate (opened s) = !s.ctl.silenced := rfl

theorem enterActive_eq (s : State) :
    enterActive s = issueTest (evaluateAll { opened s with bus := (healthCause (opened s)).bus }) := by
  rw [← healthCause_eq_bus]
  rfl

end Sys2Proof.Machine
end

section
/-! PROOFS. The epoch results of all lanes: the records of the ports, and what a change of one port alone hands onward
(R23 to R28, R33, R34). -/

namespace Sys2Proof.Machine

open Safety

variable {s t b : State} {p q : PortId} {before : Four Lane}

theorem judged_revertReady {c : Settings} {time : Time} {r : PortRecord} {e : Nat}
    (h : (judged c time r e).state = r.state) : (judged c time r e).revertReady = r.revertReady := by
  unfold judged at h ⊢
  cases hstate : r.state <;> simp only [hstate] at h ⊢ <;> split_ifs at h ⊢ <;>
    simp_all [PortRecord.rise, PortRecord.fall]

theorem judgedPort_revertReady {e : Nat} (h : (judgedPort s p e).state = (s.ports.get p).state) :
    (judgedPort s p e).revertReady = (s.ports.get p).revertReady := judged_revertReady h

/-- The record that an epoch end leaves of port `p`: that of its epoch result, where its lane is present. -/
def resultPort (before : Four Lane) (s : State) (p : PortId) : PortRecord :=
  if (before.get p).present then judgedPort s p (before.get p).errors else s.ports.get p

theorem judgedPort_congr (hconfig : t.ctl.config = s.ctl.config) (htime : t.ctl.time = s.ctl.time)
    (hport : t.ports.get p = s.ports.get p) (e : Nat) : judgedPort t p e = judgedPort s p e := by
  simp only [judgedPort, settings, now, hconfig, htime, hport]

/-! ## A change handed onward, with the records of other ports written beside it -/

theorem muxAfterTrigger_congr (h : (t.ports.get p).state = (s.ports.get p).state) :
    muxAfterTrigger p b t = muxAfterTrigger p b s := by
  simp only [muxAfterTrigger, h]

theorem handedOnward_setPort (h : HandedOnward p b s) {r : PortRecord} (hstate : r.state = (s.ports.get q).state)
    (hready : r.revertReady = (s.ports.get q).revertReady) : HandedOnward p b (s.setPort q r) := by
  have hports : ∀ x, ((s.setPort q r).ports.get x).state = (s.ports.get x).state ∧
      ((s.setPort q r).ports.get x).revertReady = (s.ports.get x).revertReady := fun x => by
    by_cases hx : x = q <;> simp [Four.get_set, hx, hstate, hready]
  have hderived : deriveOpinions (s.setPort q r) = deriveOpinions s :=
    deriveOpinions_like rfl fun x => by rw [(hports x).1]; exact likeState_refl _
  have hsteering : SameSteering { s with classes := b.classes, mux := muxAfterTrigger p b s }
      { s.setPort q r with classes := b.classes, mux := muxAfterTrigger p b (s.setPort q r) } :=
    ⟨rfl, muxAfterTrigger_congr (hports p).1, rfl, hports, fun _ => rfl⟩
  exact
    { epoch := h.epoch, opinions := h.opinions.trans hderived.symm, same := h.same, health := h.health
      recompute := fun hne => recomputeRequested_congr (h.recompute hne) rfl rfl rfl rfl rfl
      verdicts := h.verdicts
      steering := by
        rw [evaluated_eq hsteering, ← h.steering]
        rfl
      beacon := h.beacon, view := h.view, classes := h.classes, mrdy := h.mrdy, alertReleased := h.alertReleased
      ctl := h.ctl, pending := h.pending }

/-- What is handed onward does not rest on the lanes and the port records before the change. -/
theorem handedOnward_of_lines {lanes : Four Lane} {ports : Four PortRecord}
    (h : HandedOnward p { b with lanes := lanes, ports := ports } t) : HandedOnward p b t :=
  { h with recompute := fun hne => recomputeRequested_congr (h.recompute hne) rfl rfl rfl rfl rfl }

/-! ## The deliveries in lane order (R4) -/

/-- `s` is `b` after the epoch results of the ports `done`. -/
structure Delivered (before : Four Lane) (done : PortId → Prop) (b s : State) : Prop where
  config : s.ctl.config = b.ctl.config
  time : s.ctl.time = b.ctl.time
  finished : ∀ p, done p → s.ports.get p = resultPort before b p
  open_ : ∀ p, ¬ done p → s.ports.get p = b.ports.get p
  unchanged : (∀ p, (s.ports.get p).state = (b.ports.get p).state) → s = { b with ports := s.ports }
  handed : ∀ p, (s.ports.get p).state ≠ (b.ports.get p).state →
    (∀ q, q ≠ p → (s.ports.get q).state = (b.ports.get q).state) → s.ctl = b.ctl → HandedOnward p b s

theorem delivered_refl (before : Four Lane) (b : State) : Delivered before (fun _ => False) b b :=
  ⟨rfl, rfl, fun _ h => h.elim, fun _ _ => rfl, fun _ => rfl, fun _ hne => absurd rfl hne⟩

/-- The records after the result of one more port. -/
theorem Delivered.records {done : PortId → Prop} (h : Delivered before done b s)
    (hget : ∀ q, t.ports.get q = if q = p then resultPort before b p else s.ports.get q) :
    (∀ q, done q ∨ q = p → t.ports.get q = resultPort before b q) ∧
      ∀ q, ¬ (done q ∨ q = p) → t.ports.get q = b.ports.get q := by
  refine ⟨fun q hq => ?_, fun q hq => ?_⟩
  · rw [hget]
    split
    next hqp => rw [hqp]
    next hqp => exact h.finished q (hq.resolve_right hqp)
  · obtain ⟨hnot, hqp⟩ := not_or.mp hq
    rw [hget, if_neg hqp]
    exact h.open_ q hnot

section Deliver

variable {done : PortId → Prop} (h : Delivered before done b s) (hp : ¬ done p)
include h hp

/-- One more epoch result that leaves the state of its port. -/
theorem Delivered.keep (hstate : (resultPort before b p).state = (b.ports.get p).state)
    (hready : (resultPort before b p).revertReady = (b.ports.get p).revertReady) :
    Delivered before (fun q => done q ∨ q = p) b (s.setPort p (resultPort before b p)) := by
  have hbefore := h.open_ p hp
  have hstates : ∀ q, ((s.setPort p (resultPort before b p)).ports.get q).state = (s.ports.get q).state := fun q => by
    by_cases hq : q = p
    · subst hq
      simpa [hbefore] using hstate
    · simp [Four.get_set, hq]
  obtain ⟨hfinished, hopen⟩ := h.records (t := s.setPort p (resultPort before b p)) fun q => Four.get_set _ _ _ _
  refine ⟨h.config, h.time, hfinished, hopen, fun hsame => ?_, fun x hne hothers hctl => ?_⟩
  · have heq := h.unchanged fun q => (hstates q).symm.trans (hsame q)
    exact congrArg (fun u => { u with ports := s.ports.set p (resultPort before b p) }) heq
  · simp only [hstates] at hne hothers
    exact handedOnward_setPort (h.handed x hne hothers hctl) (by rw [hbefore, hstate]) (by rw [hbefore, hready])

/-- One more epoch result, which changes the state of its port. -/
theorem Delivered.change (lanes : Four Lane) (hstate : (resultPort before b p).state ≠ (b.ports.get p).state) :
    Delivered before (fun q => done q ∨ q = p) b
      (portChanged p { s with lanes := lanes, ports := s.ports.set p (resultPort before b p) }) := by
  have hbefore := h.open_ p hp
  obtain ⟨t, ht⟩ : ∃ t, t = portChanged p { s with lanes := lanes, ports := s.ports.set p (resultPort before b p) } :=
    ⟨_, rfl⟩
  have hget : ∀ q, t.ports.get q = if q = p then resultPort before b p else s.ports.get q := fun q => by
    rw [ht, portChanged_ports]
    exact Four.get_set _ _ _ _
  obtain ⟨hfinished, hopen⟩ := h.records hget
  have hmoved : (t.ports.get p).state ≠ (b.ports.get p).state := by
    rw [hget, if_pos rfl]
    exact hstate
  rw [← ht]
  refine ⟨?_, ?_, hfinished, hopen, fun hsame => absurd (hsame p) hmoved, fun x _ hothers hctl => ?_⟩
  · rw [ht, portChanged_config]
    exact h.config
  · rw [ht, portChanged_time]
    exact h.time
  · by_cases hx : p = x
    · subst hx
      have heq := h.unchanged fun q => by
        by_cases hq : q = p
        · rw [hq, hbefore]
        · rw [← hothers q hq, hget, if_neg hq]
      have hctl' : s.ctl = b.ctl := by rw [heq]
      refine handedOnward_of_lines (lanes := b.lanes) (ports := s.ports) ?_
      rw [← heq, ht]
      exact handedOnward_portChanged (by rw [← ht, hctl, hctl'])
    · exact absurd (hothers p hx) hmoved

/-- One more delivery. -/
theorem Delivered.deliver : Delivered before (fun q => done q ∨ q = p) b (deliverResult before s p) := by
  have hport := h.open_ p hp
  unfold deliverResult
  cases hpresent : (before.get p).present with
  | false =>
    have hresult : resultPort before b p = s.ports.get p := by rw [resultPort, hpresent, hport]; rfl
    have hkept := h.keep hp (by rw [hresult, hport]) (by rw [hresult, hport])
    rw [hresult] at hkept
    simpa [State.setPort] using hkept
  | true =>
    have hresult : judgedPort s p (before.get p).errors = resultPort before b p := by
      rw [judgedPort_congr h.config h.time hport, resultPort, hpresent]
      rfl
    rcases deliverEpoch_outcome p (before.get p).errors s with ⟨hstate, hset⟩ | ⟨hstate, hchanged⟩
    · have hready := judgedPort_revertReady hstate
      rw [if_pos rfl, hset, hresult]
      rw [hresult, hport] at hstate hready
      exact h.keep hp hstate hready
    · rw [if_pos rfl, hchanged, hresult]
      rw [hresult, hport] at hstate
      exact h.change hp _ hstate

end Deliver

theorem delivered_foldl (l : List PortId) (hl : l.Nodup) {done : PortId → Prop} (h : Delivered before done b s)
    (hnot : ∀ p ∈ l, ¬ done p) : Delivered before (fun p => done p ∨ p ∈ l) b (l.foldl (deliverResult before) s) := by
  induction l generalizing s done with
  | nil => simpa using h
  | cons p l ih =>
    obtain ⟨hp, hl⟩ := List.nodup_cons.mp hl
    have hnext := ih hl (h.deliver (hnot p List.mem_cons_self)) fun q hq => not_or.mpr
      ⟨hnot q (List.mem_cons_of_mem p hq), fun hqp => hp (hqp ▸ hq)⟩
    simpa [or_assoc] using hnext

/-- The state in which an epoch end delivers its results: the counts taken into the peaks. -/
def epochClosed (s : State) : State :=
  { s with lanes := s.lanes.map fun l => if l.present then l.closeEpoch else l }

theorem delivered_endEpoch (s : State) : Delivered s.lanes (fun _ => True) (epochClosed s) (endEpoch s) := by
  have h := delivered_foldl allPorts (by decide) (delivered_refl s.lanes (epochClosed s)) fun _ _ h => h
  simpa [endEpoch, epochClosed] using h

end Sys2Proof.Machine
end

section
/-! PROOFS. The joining window (O55) and the judgement of the ports at an epoch end (O21). -/

namespace Sys2Proof.Machine

open Safety

variable {s t b : State} {p q : PortId} {c : Settings} {time : Time} {r : PortRecord} {e : Nat}

theorem judged_waiting (h : r.state = .down ∨ r.state = .absent) : judged c time r e = r := by
  rcases h with h | h <;> simp only [judged, h]

theorem judged_clean (h : r.state = .probation) (he : e = 0) : judged c time r e =
    if r.cleanEpochs + 1 < c.probationEpochs then { r with cleanEpochs := r.cleanEpochs + 1 }
    else r.rise time c.revertHold := by
  simp only [judged, h, he, if_true]

theorem judged_faulty (h : r.state = .probation) (he : 0 < e) : judged c time r e = r.fall .errors := by
  simp only [judged, h, if_neg he.ne']

theorem judged_carrying (h : r.state = .up ∨ r.state = .suspect) : judged c time r e =
    if newScore c r.score e = 1023 then r.fall .errors
    else if r.state = .up ∧ c.tHi ≤ newScore c r.score e then
      { r with state := .suspect, score := newScore c r.score e }
    else if r.state = .suspect ∧ newScore c r.score e ≤ c.tLo then
      { r with state := .up, score := newScore c r.score e }
    else { r with score := newScore c r.score e } := by
  rcases h with h | h <;> simp only [judged, h] <;> simp

/-- The state in which the EPOCH_END of `s` delivers its results. -/
def epochBase (s : State) (due : Instant) : State := epochClosed { s with epoch := startTimer due epochMs }

theorem delivered_epochEnd (s : State) (due : Instant) :
    Delivered s.lanes (fun _ => True) (epochBase s due) (endEpoch { s with epoch := startTimer due epochMs }) :=
  delivered_endEpoch { s with epoch := startTimer due epochMs }

end Sys2Proof.Machine

namespace Sys2Proof.Proofs

open Sys2Proof.Machine Sys2Proof.Safety

/-- Settles O55: at its timer by the cause and the evaluations of `enterActive`, at an epoch end by the port test after
the last change of a port state. -/
theorem joinTimeEndsWindow : Obligations.JoinTimeEndsWindow := by
  refine ⟨fun s due hstate hjoin => ⟨exec_joinTimeExpiry_early hjoin, fun hdue => ?_⟩,
    fun s due hstate hepoch hdue => ?_⟩
  · have hcause := causeHandled_healthCause (opened s)
    rw [healthGate_opened] at hcause
    refine ⟨(healthCause (opened s)).bus, _, _, hcause, rfl, rfl, ?_, evaluated_onlySteers _,
      keepsPlacement_evaluated _⟩
    rw [exec_joinTimeExpiry hstate hjoin hdue, enterActive_eq]
    rfl
  · have hdelivered := delivered_epochEnd s due
    have hwindow := window_endEpoch (s := { s with epoch := startTimer due epochMs }) hstate
    refine ⟨_, exec_epochEnd_ranOut s (by rw [hstate]; nofun) hepoch hdue, fun hchanged hup => ?_, fun hsame => ?_⟩
    · rcases hwindow with ⟨-, hopen⟩ | hended
      · have hclosed := hopen hchanged
        rw [allPortsUp, List.all_eq_false] at hclosed
        obtain ⟨p, -, hp⟩ := hclosed
        exact absurd (by simpa using hup p) hp
      · exact hended
    · rw [hdelivered.unchanged hsame]
      rfl

/-- Settles O21: every result is judged by the record before the epoch end, and a change of one port alone is handed
onward with the records of the other ports written beside it. -/
theorem epochResultJudgesPort : Obligations.EpochResultJudgesPort := by
  intro s p due hstate hepoch hdue hpresent
  have hdelivered := delivered_epochEnd s due
  obtain ⟨t, ht⟩ : ∃ t, t = endEpoch { s with epoch := startTimer due epochMs } := ⟨_, rfl⟩
  rw [← ht] at hdelivered
  have hport : t.ports.get p = judged (settings s) s.ctl.time (s.ports.get p) (s.lanes.get p).errors := by
    rw [hdelivered.finished p trivial, resultPort, if_pos hpresent]
    rfl
  obtain ⟨-, -, hrun, -⟩ := endEpoch_kept { s with epoch := startTimer due epochMs }
  rw [← ht] at hrun
  refine ⟨t, ht ▸ exec_epochEnd_ranOut s hstate hepoch hdue, fun hwaiting => ?_, fun hprobation hclean => ⟨fun hmore => ?_,
    fun hlast => ?_⟩, fun hprobation hfaulty => ?_, fun hcarrying v hv => ?_, fun hne hothers hctl => ?_, fun hsame => ?_⟩
  · rw [hport, judged_waiting hwaiting]
  · rw [hport, judged_clean hprobation hclean, if_pos hmore]
  · rw [hport, judged_clean hprobation hclean, if_neg (by omega)]
    rfl
  · rw [hport, judged_faulty hprobation hfaulty]
    rfl
  · rw [hport, judged_carrying hcarrying, hv]
    rfl
  · rw [hrun]
    exact handedOnward_of_lines (hdelivered.handed p hne hothers hctl)
  · rw [hdelivered.unchanged hsame]
    exact ⟨⟨rfl, rfl, rfl, rfl, rfl, rfl, rfl, rfl, rfl, rfl, rfl, rfl⟩, rfl, rfl⟩

end Sys2Proof.Proofs
end
